-- ==== Sys2Proof/Word.lean ====
section
/-! DEFINITION. The word types of IRPE and nothing else: bytes and 16-bit halves of a Redundancy Pair. A Duration, "an
unsigned integer count of elapsed time", is a plain `Nat`: its width is the parameter `DUR_W` and nothing wraps (spec
92_eei_decisions.md D3 allows a model over the naturals; assumption log 5). -/

namespace Sys2Proof

/-- A byte on the line, in a packet, or a command word (spec 30_encoding.md R60, R66). -/
abbrev Byte := BitVec 8

/-- A 16-bit half of a Redundancy Pair (spec 44_redundancy.md R170). -/
abbrev Half := BitVec 16

end Sys2Proof
end

