-- ==== Sys2Proof/Config.lean ====
section
/-! DEFINITION. What an instance of IRPE fixes: the engine parameters and the Protocol Profile (spec 00_scope.md R7, R8),
the example instance of spec 95_test_vectors.md section 0, and the free values. -/

namespace Sys2Proof

/-- The two values of the parameter `QUANT_TIE` (spec 40_quantizer.md R92). -/
inductive TieRule where
  | halfUp
  | halfEven
deriving DecidableEq, Repr

/-- The engine-wide parameters of spec 00_scope.md R7 (`N_PROFILES` is the length of the profile table). A field's
default is the document's literal or the spec's default; the six capacities are open there (assumption log 4). -/
structure EngineParams where
  durW        : Nat := 32
  quantTie    : TieRule := .halfUp
  longGap     : Nat := 15000
  byteTicks   : Nat := 9
  pulseBit    : Bool := false
  esc         : Byte := 0x7D
  escCode0    : Byte := 0xE0
  escVal0     : Byte := 0xC0
  escCode1    : Byte := 0xE1
  escVal1     : Byte := 0xC1
  pairLen     : Nat := 4
  resultSeed  : Half := 0x79B4
  maskSeed    : Half := 0x19D8
  feedback    : BitVec 17 := 0x10811
  captureMax  : Nat
  symMax      : Nat
  payloadMax  : Nat
  emitMax     : Nat
  txMax       : Nat
  logMax      : Nat
deriving DecidableEq, Repr

/-- The two coding families (spec 00_scope.md R8, field `kind`: 0 = `PD`, 1 = `DUTY`). -/
inductive Kind where
  | pd
  | duty
deriving DecidableEq, Repr

/-- A `min`/`send`/`max` triple of the Protocol Profile (spec 00_scope.md R8). -/
structure Bounds where
  min  : Nat
  send : Nat
  max  : Nat
deriving DecidableEq, Repr

/-- One row of the Protocol Profile table, with the one default R8 gives (spec 00_scope.md R8, 45_modulator.md R192,
92_eei_decisions.md D32). -/
structure Profile where
  kind                  : Kind
  startPulse            : Bounds
  startGap              : Bounds
  bitPulse              : Bounds
  bitGapMin             : Nat
  bitGapThreshold       : Nat
  bitGapMax             : Nat
  bitGapSendShort       : Nat
  bitGapSendLong        : Nat
  stopPulse             : Bounds
  stopGap               : Bounds
  tickLen               : Nat
  tickMargin            : Nat
  replyTimeout          : Nat
  packetLengthTimeout   : Nat
  packetContinueTimeout : Nat
  cropLead              : BitVec 8
  cropTrail             : BitVec 2
  startSeq              : List Byte
  term                  : Byte
  trailer               : List Byte
  dutyPulseSend         : Nat
  dutyStopTicks         : BitVec 8 := 1
deriving DecidableEq, Repr

/-- A triple no rule reads. -/
def Bounds.unused : Bounds := ⟨0, 0, 0⟩

/-- The example profile `PD_EX` of spec 95_test_vectors.md section 0. Its duty fields are unused there; here they
are 0, `duty_stop_ticks` its default 1 (assumption log 4). -/
def Profile.pdEx : Profile where
  kind := .pd
  startPulse := ⟨9000, 9800, 11000⟩
  startGap := ⟨2000, 2450, 3000⟩
  bitPulse := ⟨300, 500, 650⟩
  bitGapMin := 300
  bitGapThreshold := 1000
  bitGapMax := 1600
  bitGapSendShort := 700
  bitGapSendLong := 1300
  stopPulse := ⟨1000, 1300, 1500⟩
  stopGap := ⟨200, 400, 2000⟩
  tickLen := 0
  tickMargin := 0
  replyTimeout := 40000
  packetLengthTimeout := 300000
  packetContinueTimeout := 5000
  cropLead := 1
  cropTrail := 1
  startSeq := []
  term := 0
  trailer := []
  dutyPulseSend := 0

/-- The example profile `DT_EX` of spec 95_test_vectors.md section 0. Its pulse-distance fields are unused there and 0
here (assumption log 4). -/
def Profile.dtEx : Profile where
  kind := .duty
  startPulse := .unused
  startGap := .unused
  bitPulse := .unused
  bitGapMin := 0
  bitGapThreshold := 0
  bitGapMax := 0
  bitGapSendShort := 0
  bitGapSendLong := 0
  stopPulse := .unused
  stopGap := .unused
  tickLen := 100
  tickMargin := 30
  replyTimeout := 60000
  packetLengthTimeout := 500000
  packetContinueTimeout := 20000
  cropLead := 0
  cropTrail := 0
  startSeq := List.replicate 10 0xAA ++ [0xC0, 0x11, 0x22]
  term := 0xC1
  trailer := []
  dutyPulseSend := 40
  dutyStopTicks := 1

/-- The engine parameters of the example instance `EX` of spec 95_test_vectors.md section 0. -/
def EngineParams.ex : EngineParams where
  captureMax := 512
  symMax := 513
  payloadMax := 513
  emitMax := 1024
  txMax := 32
  logMax := 16

/-- The profile table of the example instance `EX`: `PROFILE[0]` = `PD_EX`, `PROFILE[1]` = `DT_EX`. -/
def Config.exProfiles : List Profile := [.pdEx, .dtEx]

/-- FREE VALUE: what `RC.result` holds after `AUTOFIX` (spec 93_implementation_defined.md U6; assumption log 7). -/
opaque Config.freeRcResult : Nat → Half

/-- FREE VALUE: bits 15:0 of `RC.mask` after `AUTOFIX`; bit 16 is set only between the shift and the fold
(spec 10_state.md R12; assumption log 7). -/
opaque Config.freeRcMask : Nat → Half

/-- FREE VALUE: what `RC.data` holds after `AUTOFIX` (spec 93_implementation_defined.md U6; assumption log 7). -/
opaque Config.freeRcData : Nat → Half

/-- FREE VALUE: what a 16-bit step counter holds for a count that 16 bits cannot hold (assumption log 9). -/
opaque Config.freeCount : Nat → BitVec 16

end Sys2Proof
end

