-- ==== Sys2Proof/Syntax.lean ====
section
/-! DEFINITION. The operations of IRPE, one constructor per row of spec/opcode_table.json, and the fields of a command
word (spec 30_encoding.md R60, R61). Operands are in registers and buffers, not in the word. -/

namespace Sys2Proof

/-- The operations. A flag argument stands only where spec 30_encoding.md R61 says "any". -/
inductive Instr where
  | quant
  | pddec
  | dutydec (t : Bool)
  | frame
  | crop
  | check
  | autofix
  | modpd
  | modduty
  | rxstep (w t : Bool)
  | txrxstep (t : Bool)
  | converse (w t : Bool)
  | profsel
  | xreset
deriving DecidableEq, Repr

/-- The four fields of a command word (spec 30_encoding.md R60). -/
structure Command where
  op   : BitVec 4
  w    : Bool
  t    : Bool
  zero : BitVec 2
deriving DecidableEq, Repr

/-- The fields of the word that starts an operation (spec 30_encoding.md R61). -/
def Instr.command : Instr → Command
  | .quant        => ⟨0x1, false, false, 0⟩
  | .pddec        => ⟨0x2, false, false, 0⟩
  | .dutydec t    => ⟨0x3, false, t, 0⟩
  | .frame        => ⟨0x4, false, false, 0⟩
  | .crop         => ⟨0x5, false, false, 0⟩
  | .check        => ⟨0x6, false, false, 0⟩
  | .autofix      => ⟨0x7, false, false, 0⟩
  | .modpd        => ⟨0x8, false, false, 0⟩
  | .modduty      => ⟨0x9, false, false, 0⟩
  | .rxstep w t   => ⟨0xA, w, t, 0⟩
  | .txrxstep t   => ⟨0xB, false, t, 0⟩
  | .converse w t => ⟨0xC, w, t, 0⟩
  | .profsel      => ⟨0xD, false, false, 0⟩
  | .xreset       => ⟨0xE, false, false, 0⟩

end Sys2Proof
end

