-- ==== Sys2Proof/WellFormed.lean ====
section
/-! DEFINITION. Which command-word fields are legal (spec 30_encoding.md R61, R63). Every term of `Instr` has legal
fields by its type; the checks bite on `Command`. -/

namespace Sys2Proof

/-- `op` 0x0 and 0xF are reserved (spec 30_encoding.md R63). -/
def Command.opDefined (c : Command) : Bool := c.op != 0x0 && c.op != 0xF

/-- The operations that take the `w` bit (spec 30_encoding.md R61): `RXSTEP` and `CONVERSE`. -/
def Command.takesW (c : Command) : Bool := c.op == 0xA || c.op == 0xC

/-- The operations that take the `t` bit (spec 30_encoding.md R61): `DUTYDEC`, `RXSTEP`, `TXRXSTEP`, `CONVERSE`. -/
def Command.takesT (c : Command) : Bool := c.op == 0x3 || c.op == 0xA || c.op == 0xB || c.op == 0xC

/-- A legal command word's fields (the negation of spec 30_encoding.md R63's "illegal"). -/
def Command.wellFormed (c : Command) : Bool :=
  c.opDefined && c.zero == 0 && (!c.w || c.takesW) && (!c.t || c.takesT)

/-- An instruction is well formed when its command word's fields are legal. -/
def Instr.wellFormed (i : Instr) : Bool := i.command.wellFormed

end Sys2Proof
end

