-- ==== Sys2Proof/Decode.lean ====
section
/-! DEFINITION. The command decoder, total on any byte and rejecting by name, the opcode rows it agrees with, and the
encoder (spec 30_encoding.md R60, R61, R63). -/

namespace Sys2Proof

/-- Why a word is no command (spec 30_encoding.md R63). -/
inductive DecodeError where
  /-- `op` is 0x0 or 0xF. -/
  | reservedOp
  /-- Bits 7:6 are not zero. -/
  | nonzeroHighBits
  /-- `w` or `t` is 1 on an operation that does not take it. -/
  | illegalFlag
  /-- There is no byte to read. -/
  | noWord
deriving DecidableEq, Repr

/-- The fields of a command word (spec 30_encoding.md R60). -/
def commandOf (c : Byte) : Command where
  op   := c.extractLsb' 0 4
  w    := c.getLsbD 4
  t    := c.getLsbD 5
  zero := c.extractLsb' 6 2

/-- The operation of legal fields (spec 30_encoding.md R61, R63). -/
def decodeFields (op : Nat) (w t : Bool) : Except DecodeError Instr :=
  match op, w, t with
  | 0x1, false, false => .ok .quant
  | 0x2, false, false => .ok .pddec
  | 0x3, false, t     => .ok (.dutydec t)
  | 0x4, false, false => .ok .frame
  | 0x5, false, false => .ok .crop
  | 0x6, false, false => .ok .check
  | 0x7, false, false => .ok .autofix
  | 0x8, false, false => .ok .modpd
  | 0x9, false, false => .ok .modduty
  | 0xA, w, t         => .ok (.rxstep w t)
  | 0xB, false, t     => .ok (.txrxstep t)
  | 0xC, w, t         => .ok (.converse w t)
  | 0xD, false, false => .ok .profsel
  | 0xE, false, false => .ok .xreset
  | 0x0, _, _         => .error .reservedOp
  | 0xF, _, _         => .error .reservedOp
  | _, _, _           => .error .illegalFlag

/-- The operation a command word starts, or why it is illegal (spec 30_encoding.md R61, R63). -/
def decode (c : Byte) : Except DecodeError Instr :=
  if (commandOf c).zero = 0 then decodeFields (commandOf c).op.toNat (commandOf c).w (commandOf c).t
  else .error .nonzeroHighBits

/-- The decoder on a stream of bytes: every command word is one byte (spec 30_encoding.md R60). -/
def decodeBytes : List Byte → Except DecodeError (Instr × List Byte)
  | [] => .error .noWord
  | c :: rest => (decode c).map fun i => (i, rest)

/-- The word of a command's fields, `zero || t || w || op` (spec 30_encoding.md R60). -/
def wordOf (c : Command) : Byte :=
  c.zero ++ BitVec.ofBool c.t ++ BitVec.ofBool c.w ++ c.op

/-- The command word of an operation (spec 30_encoding.md R60, R61). -/
def encode (i : Instr) : Byte := wordOf i.command

/-- One row of the opcode table: a word `c` selects it when `c & mask = pattern` (spec 30_encoding.md R60). -/
structure OpcodeRow where
  mnemonic : String
  pattern  : Byte
  mask     : Byte
deriving DecidableEq, Repr

/-- The opcode table of spec 30_encoding.md R61 as masks and patterns. -/
def opcodeRows : List OpcodeRow :=
  [⟨"QUANT", 0x01, 0xFF⟩, ⟨"PDDEC", 0x02, 0xFF⟩, ⟨"DUTYDEC", 0x03, 0xDF⟩, ⟨"FRAME", 0x04, 0xFF⟩,
   ⟨"CROP", 0x05, 0xFF⟩, ⟨"CHECK", 0x06, 0xFF⟩, ⟨"AUTOFIX", 0x07, 0xFF⟩, ⟨"MODPD", 0x08, 0xFF⟩,
   ⟨"MODDUTY", 0x09, 0xFF⟩, ⟨"RXSTEP", 0x0A, 0xCF⟩, ⟨"TXRXSTEP", 0x0B, 0xDF⟩, ⟨"CONVERSE", 0x0C, 0xCF⟩,
   ⟨"PROFSEL", 0x0D, 0xFF⟩, ⟨"XRESET", 0x0E, 0xFF⟩]

/-- The word `c` selects the row `r`. -/
def selects (c : Byte) (r : OpcodeRow) : Bool := c &&& r.mask == r.pattern

/-- The instruction the decoder reads from an opcode-table word of `nbits` bits: one byte, no operand words. -/
def decodeTableWord (nbits w : Nat) : Option Instr :=
  if nbits ≤ 8 ∧ w < 256 then
    match decode (BitVec.ofNat 8 w) with
    | .ok i => some i
    | .error _ => none
  else none

end Sys2Proof
end

