-- ==== Sys2Proof/Machine/State.lean ====
section
/-! DEFINITION. The whole state of IRPE as plain data (spec 10_state.md R10 to R22, 20_memory.md R41, R42), the model's
own input and output fields, the reasons a step can stop, and the state after reset (spec 70_reset_and_hazards.md R260). -/

namespace Sys2Proof.Machine

/-- A symbol of the stream between decoder and framer (spec 30_encoding.md R64, R66). `endMark` is the tag `END`, which
no decoder stores; a host can (spec 43_framer.md R155). -/
inductive Symbol where
  | byte (v : Byte)
  | byteError
  | longGap
  | endMark
deriving DecidableEq, Repr

/-- A payload entry (spec 30_encoding.md R67). -/
inductive PayEntry where
  | valid (v : Byte)
  | invalid
deriving DecidableEq, Repr

/-- The report kinds 0 to 7 of spec 30_encoding.md R75, in order (`finish` is the kind `END`). -/
inductive ReportKind where
  | finish
  | dump
  | ok
  | autofix
  | chkfail
  | error
  | noise1
  | noise2
deriving DecidableEq, Repr

/-- A report `kind, data, raw` (spec 30_encoding.md R75). -/
structure Report where
  kind : ReportKind
  data : Half
  raw  : List PayEntry
deriving DecidableEq, Repr

/-- An entry of `EMIT`: a bare duration, or a level with its duration (spec 20_memory.md R42). -/
inductive EmitEntry where
  | bare (d : Nat)
  | level (high : Bool) (d : Nat)
deriving DecidableEq, Repr

/-- The diagram trace alphabet (spec 30_encoding.md R77): `|`, `-`, space, `x`, newline. -/
inductive TraceChar where
  | pulse
  | noPulse
  | byteBoundary
  | abortedByte
  | packetBoundary
deriving DecidableEq, Repr

/-- `FRM.st` (spec 10_state.md R13). -/
inductive FrmState where
  | seeking
  | inStartSequence
  | inPayload
  | aborted
deriving DecidableEq, Repr

/-- `SEQ.st` (spec 10_state.md R13, 46_sequencer.md R202). -/
inductive SeqState where
  | idle
  | waitingForStart
  | receiving
  | decoded
  | badPacket
  | timedOut
deriving DecidableEq, Repr

/-- `OUT.kind` (spec 10_state.md R18). -/
inductive OutKind where
  | noOutcome
  | bytes
  | badPacket
  | timedOut
deriving DecidableEq, Repr

/-- The pulse-distance decoder's registers (spec 10_state.md R12, R14). -/
structure PdRegs where
  acc   : Byte
  nbits : Nat
  cur   : Nat
  stop  : Bool
deriving DecidableEq, Repr

/-- The duty decoder's registers (spec 10_state.md R12, R14); `opened` is `DT.open`. -/
structure DtRegs where
  acc    : Byte
  tib    : BitVec 4
  cur    : Nat
  opened : Bool
deriving DecidableEq, Repr

/-- The redundancy coder's registers (spec 10_state.md R12). -/
structure RcRegs where
  result : Half
  mask   : BitVec 17
  data   : Half
deriving DecidableEq, Repr

/-- The quantizer's result registers (spec 10_state.md R12). -/
structure TqRegs where
  ticks : Nat
  err   : Nat
deriving DecidableEq, Repr

/-- The framer's registers and flags (spec 10_state.md R13, R14). -/
structure FrmRegs where
  st       : FrmState
  idx      : BitVec 4
  cur      : Nat
  esc      : Bool
  bad      : Bool
  abortRun : BitVec 2
  mmValid  : Bool
  mmPos    : Nat
deriving DecidableEq, Repr

/-- The sequencer's registers (spec 10_state.md R13). -/
structure SeqRegs where
  st   : SeqState
  step : BitVec 16
deriving DecidableEq, Repr

/-- The sticky internal fault (spec 10_state.md R14, 60_exceptions.md R240). -/
structure FaultRegs where
  v    : Bool
  code : BitVec 4
deriving DecidableEq, Repr

/-- The configuration registers (spec 10_state.md R15). -/
structure CfgRegs where
  sel   : Nat
  valid : Bool
  trace : Bool
deriving DecidableEq, Repr

/-- The outcome registers (spec 10_state.md R18). -/
structure OutRegs where
  kind     : OutKind
  reason   : BitVec 4
  position : Nat
  value    : Nat
deriving DecidableEq, Repr

/-- The conversation registers (spec 10_state.md R18). -/
structure ConvRegs where
  done    : BitVec 16
  aborted : Bool
deriving DecidableEq, Repr

/-- The operand registers (spec 10_state.md R22). -/
structure OpRegs where
  a : Nat
  b : Nat
deriving DecidableEq, Repr

/-- The result registers (spec 10_state.md R22). -/
structure ResRegs where
  v   : Bool
  val : Nat
deriving DecidableEq, Repr

/-- The capture peripheral as its contract shows it: paused or running, and its queue `CQ` (spec 20_memory.md R41). -/
structure CaptureDev where
  paused : Bool
  queue  : List Nat
deriving DecidableEq, Repr

/-- The emission peripheral (spec 20_memory.md R42, 70_reset_and_hazards.md R260) and, in `sent`, the model's record of
the sequences handed to it, oldest first (assumption log 20). -/
structure EmissionPort where
  idle : Bool
  line : Bool
  sent : List (List EmitEntry)
deriving DecidableEq, Repr

/-- One entry `(a_i, d_i)` of an arrival trace (spec 46_sequencer.md R203). -/
structure Arrival where
  time : Nat
  dur  : Nat
deriving DecidableEq, Repr

/-- The command list of a conversation (spec 30_encoding.md R78). -/
structure CommandList where
  family    : Nat
  initiator : Bool
  packets   : List (List Byte)
deriving DecidableEq, Repr

/-- The result of one step of a conversation (spec 46_sequencer.md R214): its outcome, reports and trace. -/
structure StepResult where
  out   : OutRegs
  rep   : List Report
  trace : List TraceChar
deriving DecidableEq, Repr

/-- What the host does between operations (spec 30_encoding.md R60, 70_reset_and_hazards.md R260, R264, R270;
assumption log 1). -/
inductive HostAction where
  /-- Writes a command word to the command port. -/
  | command (word : Byte)
  /-- Writes `OP.a`. -/
  | setOpA (v : Nat)
  /-- Writes `OP.b`. -/
  | setOpB (v : Nat)
  /-- Writes `CAP` before a stand-alone decoder. -/
  | setCap (ds : List Nat)
  /-- Writes `SYM` before a stand-alone framer. -/
  | setSym (ss : List Symbol)
  /-- Writes `TXB`. -/
  | setTxb (bs : List Byte)
  /-- Supplies the command list of a conversation. -/
  | setCommandList (l : CommandList)
  /-- The platform reloads one row of the Protocol Profile table. -/
  | loadProfile (f : Nat) (row : Profile)
  /-- Hardware reset. -/
  | hardReset
deriving DecidableEq, Repr

/-- Why the machine is stuck. -/
inductive Fault where
  /-- Raised by `RXSTEP` and `CONVERSE` with `w` = 1 when nothing ever arrives: "the step relation has no result for that
  input" (spec 46_sequencer.md R217). Safe: nothing is claimed of a state after it. -/
  | waitForever
deriving DecidableEq, Repr

/-- Why the model gives no meaning. -/
inductive Refusal where
  /-- Raised by an arm of `exec` whose operation has no meaning yet. Safe. -/
  | notModelled (mnemonic : String)
  /-- Raised by an operation run under a profile that is not well formed, which spec 00_scope.md R9 tells a model to
  refuse. Safe. -/
  | profileIllFormed
  /-- Raised by a receive whose arrival trace is not ascending or holds a number that is no Duration, which spec
  93_implementation_defined.md U19 tells a model to refuse. Safe. -/
  | traceIllFormed
  /-- Raised by a host action that does not fit the register or buffer it writes (spec 10_state.md R17; assumption
  log 17). Safe. -/
  | hostWriteOutOfRange
  /-- Raised by `step` when the engine parameters lie outside the ranges the rules are written for (spec 00_scope.md R7;
  assumption log 6). Safe. -/
  | engineIllFormed
deriving DecidableEq, Repr

/-- The state of IRPE. -/
structure State where
  /-- Engine parameters: constants of the hardware, written by no operation (spec 00_scope.md R7). -/
  par      : EngineParams
  /-- The Protocol Profile table, read-only to IRPE (spec 10_state.md R15). -/
  profiles : List Profile
  pd       : PdRegs
  dt       : DtRegs
  rc       : RcRegs
  tq       : TqRegs
  frm      : FrmRegs
  seq      : SeqRegs
  /-- `CAP.full` (spec 10_state.md R14). -/
  capFull  : Bool
  fault    : FaultRegs
  cfg      : CfgRegs
  out      : OutRegs
  conv     : ConvRegs
  op       : OpRegs
  res      : ResRegs
  /-- The buffers of spec 10_state.md R17 and R22. -/
  cap      : List Nat
  sym      : List Symbol
  pay      : List PayEntry
  rep      : List Report
  emit     : List EmitEntry
  log      : List Nat
  txb      : List Byte
  trace    : List TraceChar
  capDev   : CaptureDev
  port     : EmissionPort
  /-- MODEL: the host's actions not yet taken, oldest first (assumption log 1). -/
  pending  : List HostAction
  /-- MODEL: the arrival traces of the coming receives (assumption log 2). -/
  arrivals : List (List Arrival)
  /-- MODEL: the command list operand of `CONVERSE` (assumption log 3). -/
  cmdList  : CommandList
  /-- MODEL: the sequence of step results of the last `CONVERSE` (assumption log 20). -/
  results  : List StepResult
  /-- MODEL: how many free values have been drawn (assumption log 7). -/
  freeCtr  : Nat
deriving DecidableEq, Repr

/-- The outcome registers with no outcome in them (spec 10_state.md R18). -/
def OutRegs.clear : OutRegs := ⟨.noOutcome, 0, 0, 0⟩

/-- The framer's registers at reset and at step start (spec 10_state.md R13, R14). -/
def FrmRegs.clear : FrmRegs := ⟨.seeking, 0, 0, false, false, 0, false, 0⟩

/-- The state after hardware reset of an engine with parameters `par` and profile table `profiles`, nothing asked of it
by the host (spec 70_reset_and_hazards.md R260). -/
def State.initial (par : EngineParams) (profiles : List Profile) : State where
  par := par
  profiles := profiles
  pd := ⟨0, 0, 0, false⟩
  dt := ⟨0, 0, 0, false⟩
  rc := ⟨par.resultSeed, par.maskSeed.setWidth 17, 0⟩
  tq := ⟨0, 0⟩
  frm := .clear
  seq := ⟨.idle, 0⟩
  capFull := false
  fault := ⟨false, 0⟩
  cfg := ⟨0, false, false⟩
  out := .clear
  conv := ⟨0, false⟩
  op := ⟨0, 0⟩
  res := ⟨false, 0⟩
  cap := []
  sym := []
  pay := []
  rep := []
  emit := []
  log := []
  txb := []
  trace := []
  capDev := ⟨true, []⟩
  port := ⟨true, false, []⟩
  pending := []
  arrivals := []
  cmdList := ⟨0, true, []⟩
  results := []
  freeCtr := 0

/-- The machine right after reset (spec 70_reset_and_hazards.md R260). The spec leaves the parameters and the profile
table to the platform; this is its example instance `EX` (assumption log 4). -/
def State.reset : State := State.initial EngineParams.ex Config.exProfiles

end Sys2Proof.Machine
end

