-- ==== Sys2Proof/Machine/Operands.lean ====
section
/-! DEFINITION. Operand forms: the encodings of symbols, entries, kinds and codes, the interval and bit notations of spec
00_scope.md section 5, operand slices, and the contracts inputs must meet (spec 00_scope.md R7 to R9, 46_sequencer.md R203). -/

namespace Sys2Proof.Machine

/-- `d in [lo, hi]`, both ends included (spec 41_pd_decoder.md R102, decision D6). -/
def inRange (d lo hi : Nat) : Bool := decide (lo ≤ d) && decide (d ≤ hi)

/-- `d` lies in the bounds of a triple. -/
def inBounds (d : Nat) (b : Bounds) : Bool := inRange d b.min b.max

/-- `len` ones from bit `lo` upwards, in 8 bits: the spec's `ones(lo, lo + len - 1)` (spec 00_scope.md section 5). -/
def onesFrom (lo len : Nat) : Byte := BitVec.ofNat 8 ((2 ^ len - 1) * 2 ^ lo)

/-- The bit `b` at position `k` of a byte: `b << k` (spec 41_pd_decoder.md R104). -/
def bitAt (b : Bool) (k : Nat) : Byte := BitVec.ofNat 8 (b.toNat * 2 ^ k)

/-- `v[15:0]` of an operand register (spec 30_encoding.md R62). -/
def lowHalf (v : Nat) : Half := BitVec.ofNat 16 v

/-- `hi << 8 | lo` (spec 20_memory.md R44). -/
def pairOf (hi lo : Byte) : Half := hi ++ lo

/-- The 10-bit encoding of a symbol (spec 30_encoding.md R66). -/
def symbolCode : Symbol → BitVec 10
  | .byte v    => (0 : BitVec 2) ++ v
  | .byteError => 0x100
  | .longGap   => 0x200
  | .endMark   => 0x300

/-- The 9-bit encoding of a payload entry (spec 30_encoding.md R67). -/
def entryCode : PayEntry → BitVec 9
  | .valid v => (0 : BitVec 1) ++ v
  | .invalid => 0x100

/-- Bits 7:0 of a payload entry (spec 30_encoding.md R67). -/
def entryValue : PayEntry → Byte
  | .valid v => v
  | .invalid => 0

/-- The symbol has tag `Byte`. -/
def isByte : Symbol → Bool
  | .byte _    => true
  | .byteError => false
  | .longGap   => false
  | .endMark   => false

/-- The number of a report kind (spec 30_encoding.md R75). -/
def reportCode : ReportKind → BitVec 3
  | .finish  => 0
  | .dump    => 1
  | .ok      => 2
  | .autofix => 3
  | .chkfail => 4
  | .error   => 5
  | .noise1  => 6
  | .noise2  => 7

/-- The number of a framer state (spec 10_state.md R13). -/
def frmCode : FrmState → BitVec 2
  | .seeking         => 0
  | .inStartSequence => 1
  | .inPayload       => 2
  | .aborted         => 3

/-- The number of a sequencer state (spec 10_state.md R13). -/
def seqCode : SeqState → BitVec 3
  | .idle            => 0
  | .waitingForStart => 1
  | .receiving       => 2
  | .decoded         => 3
  | .badPacket       => 4
  | .timedOut        => 5

/-- The number of an outcome kind (spec 10_state.md R18). -/
def outCode : OutKind → BitVec 2
  | .noOutcome => 0
  | .bytes     => 1
  | .badPacket => 2
  | .timedOut  => 3

/-- The character of a trace mark (spec 30_encoding.md R77). -/
def traceChar : TraceChar → Char
  | .pulse          => '|'
  | .noPulse        => '-'
  | .byteBoundary   => ' '
  | .abortedByte    => 'x'
  | .packetBoundary => '\n'

/-- The ten reasons of a bad packet (spec 60_exceptions.md R231). -/
inductive BadReason where
  | startPulse
  | startGap
  | pulse
  | bitGap
  | bitCount
  | truncated
  | empty
  | tooLong
  | framing
  | tooShort
deriving DecidableEq, Repr

/-- The reason codes of spec 60_exceptions.md R231. -/
def badCode : BadReason → BitVec 4
  | .startPulse => 1
  | .startGap   => 2
  | .pulse      => 3
  | .bitGap     => 4
  | .bitCount   => 5
  | .truncated  => 6
  | .empty      => 7
  | .tooLong    => 8
  | .framing    => 9
  | .tooShort   => 10

/-- `TO_NOTHING_RECEIVED` (spec 60_exceptions.md R232). -/
def toNothingReceived : BitVec 4 := 1

/-- The eight causes of an internal fault (spec 60_exceptions.md R241). -/
inductive FaultCause where
  | badCmd
  | badProfile
  | div0
  | symOverflow
  | payloadOverflow
  | emitOverflow
  | txOverflow
  | badSymbol
deriving DecidableEq, Repr

/-- The fault codes of spec 60_exceptions.md R241. -/
def faultCode : FaultCause → BitVec 4
  | .badCmd          => 1
  | .badProfile      => 2
  | .div0            => 3
  | .symOverflow     => 4
  | .payloadOverflow => 5
  | .emitOverflow    => 6
  | .txOverflow      => 7
  | .badSymbol       => 8

/-- `min <= send <= max` (spec 00_scope.md R9). -/
def boundsOrdered (b : Bounds) : Bool := decide (b.min ≤ b.send) && decide (b.send ≤ b.max)

/-- The conditions of spec 00_scope.md R9 on a `PD` row alone. -/
def pdConditions (P : Profile) : Bool :=
  decide (P.bitGapMin ≤ P.bitGapSendShort) && decide (P.bitGapSendShort ≤ P.bitGapThreshold) &&
  decide (P.bitGapThreshold < P.bitGapSendLong) && decide (P.bitGapSendLong ≤ P.bitGapMax) &&
  (decide (P.bitPulse.max < P.stopPulse.min) || decide (P.stopPulse.max < P.bitPulse.min)) &&
  (P.cropTrail == 1 || P.cropTrail == 2)

/-- The conditions of spec 00_scope.md R9 on a `DUTY` row's template, terminator and trailer. -/
def framingConditions (P : Profile) : Bool :=
  decide (11 ≤ P.startSeq.length) && decide (P.startSeq.length ≤ 14) && !P.trailer.contains P.term &&
  match P.startSeq with
  | [] => false
  | v :: _ => !P.trailer.contains v

/-- The conditions of spec 00_scope.md R9 on a `DUTY` row's tick. -/
def tickConditions (P : Profile) : Bool :=
  decide (1 ≤ P.tickLen) && decide (1 ≤ P.dutyPulseSend) && decide (P.dutyPulseSend ≤ P.tickLen)

/-- The conditions of spec 00_scope.md R9 on rows of both kinds. -/
def commonConditions (P : Profile) : Bool :=
  boundsOrdered P.startPulse && boundsOrdered P.startGap && boundsOrdered P.bitPulse && boundsOrdered P.stopPulse &&
  boundsOrdered P.stopGap && decide (P.packetContinueTimeout ≤ P.packetLengthTimeout)

/-- A well-formed profile (spec 00_scope.md R9). -/
def profileWellFormed (P : Profile) : Bool :=
  commonConditions P &&
  match P.kind with
  | .pd   => pdConditions P
  | .duty => tickConditions P && framingConditions P

/-- A profile the model gives operations a meaning under: a well-formed one, or a `DUTY` row with `tick_len` = 0 that
meets every condition a tick of 0 leaves open, whose behaviour spec 93_implementation_defined.md U8 gives (U2 "for
`tick_len` = 0 see U8"; assumption log 10). -/
def profileAdmitted (P : Profile) : Bool :=
  profileWellFormed P ||
  (P.kind == .duty && P.tickLen == 0 && decide (1 ≤ P.dutyPulseSend) && commonConditions P && framingConditions P)

/-- A number that fits `DUR_W` bits (spec 00_scope.md R7). -/
def fitsDur (par : EngineParams) (v : Nat) : Bool := decide (v < 2 ^ par.durW)

/-- Every field of a triple fits `DUR_W` bits. -/
def boundsFit (par : EngineParams) (b : Bounds) : Bool :=
  fitsDur par b.min && fitsDur par b.send && fitsDur par b.max

/-- Every field of a profile row fits its width: "a `DUR_W`-bit unsigned number unless the table says otherwise"
(spec 00_scope.md R8). -/
def profileFits (par : EngineParams) (P : Profile) : Bool :=
  boundsFit par P.startPulse && boundsFit par P.startGap && boundsFit par P.bitPulse && boundsFit par P.stopPulse &&
  boundsFit par P.stopGap &&
  [P.bitGapMin, P.bitGapThreshold, P.bitGapMax, P.bitGapSendShort, P.bitGapSendLong, P.tickLen, P.tickMargin,
   P.replyTimeout, P.packetLengthTimeout, P.packetContinueTimeout, P.dutyPulseSend].all (fitsDur par)

/-- Engine parameters the rules are written for (spec 00_scope.md R7; assumption log 6): the capacities R7 bounds from
below, a pair length that has the four entries of 30_encoding.md R74, a byte of at most nine ticks (42_duty_decoder.md
R126), a feedback that folds (44_redundancy.md R171), registers of `DUR_W` bits that hold a 16-bit value (10_state.md
R22), and buffers their cursors can index (10_state.md R13). -/
def engineWellFormed (par : EngineParams) : Bool :=
  decide (1 ≤ par.captureMax) && decide (4 ≤ par.payloadMax) && decide (4 ≤ par.emitMax) &&
  decide (4 ≤ par.pairLen) && decide (par.byteTicks ≤ 9) && par.feedback.getLsbD 16 && decide (16 ≤ par.durW) &&
  fitsDur par par.captureMax && fitsDur par par.symMax

/-- The times of a trace never fall below `t` or below an earlier one: `a_0 <= a_1 <= ...` (spec 46_sequencer.md R203). -/
def ascendingFrom : Nat → List Arrival → Bool
  | _, [] => true
  | t, a :: rest => decide (t ≤ a.time) && ascendingFrom a.time rest

/-- An arrival trace the rules are defined for: ascending (spec 93_implementation_defined.md U19), its Durations
`DUR_W`-bit numbers (spec 00_scope.md R7). -/
def traceAdmitted (par : EngineParams) (tr : List Arrival) : Bool :=
  ascendingFrom 0 tr && tr.all fun a => fitsDur par a.dur

end Sys2Proof.Machine
end

