-- ==== Sys2Proof/Machine/Flags.lean ====
section
/-! DEFINITION. IRPE has no condition codes (spec 10_state.md R14). This file computes its status registers: outcomes
(R18, 60_exceptions.md R231, R232), the sequencer's terminal states (46_sequencer.md R202, R210), and 16-bit step counts. -/

namespace Sys2Proof.Machine

/-- `OUT` for the outcome `Bytes` (spec 10_state.md R18, 41_pd_decoder.md R112). -/
def outBytes : OutRegs := ⟨.bytes, 0, 0, 0⟩

/-- `OUT` for `BadPacket(reason, position, value)` (spec 60_exceptions.md R231). -/
def outBad (r : BadReason) (position value : Nat) : OutRegs := ⟨.badPacket, badCode r, position, value⟩

/-- `OUT` for `TimedOut("nothing received")` (spec 60_exceptions.md R232). -/
def outTimedOut : OutRegs := ⟨.timedOut, toNothingReceived, 0, 0⟩

/-- The sequencer state an outcome ends a step in, `SEQ.st` itself where there is none (spec 46_sequencer.md R210). -/
def terminalState (k : OutKind) (st : SeqState) : SeqState :=
  match k with
  | .noOutcome => st
  | .bytes     => .decoded
  | .badPacket => .badPacket
  | .timedOut  => .timedOut

/-- A step count in a 16-bit register; past 16 bits the spec states no value and a free one stands (assumption log 9). -/
def count16 (n : Nat) : BitVec 16 := if n < 2 ^ 16 then BitVec.ofNat 16 n else Config.freeCount n

/-- One more aborted outcome: the counter saturates at 2 (spec 10_state.md R14, 43_framer.md R151). -/
def abortRunNext (r : BitVec 2) : BitVec 2 := BitVec.ofNat 2 (min (r.toNat + 1) 2)

/-- The report is about a packet the framer closed (spec 46_sequencer.md R211). -/
def isPacketReport (r : Report) : Bool :=
  match r.kind with
  | .ok | .autofix | .chkfail | .error => true
  | .finish | .dump | .noise1 | .noise2 => false

end Sys2Proof.Machine
end

