-- ==== Sys2Proof/Machine/Ops.lean ====
section
/-! DEFINITION. The named operations every unit shares: how an operation runs and ends, taking an internal fault (spec
60_exceptions.md R240) and the reset that leaves it (70_reset_and_hazards.md R260), the exchange-step reset (R262), the
profile test (10_state.md R16), and the primitives of the two peripherals (20_memory.md R41, R42). -/

namespace Sys2Proof.Machine

/-- How a part of an operation ends. -/
inductive Run where
  /-- It ended, and the operation goes on from `s`. -/
  | ok (s : State)
  /-- It raised an internal fault, and the operation ends with what was written (spec 60_exceptions.md R240). -/
  | halted (s : State)
  /-- It has no end (spec 46_sequencer.md R217). -/
  | stuck (f : Fault)
  /-- The model gives it no meaning. -/
  | refused (r : Refusal)
deriving DecidableEq, Repr

/-- The next part of an operation runs only when the part before it ended. -/
def Run.andThen (r : Run) (k : State → Run) : Run :=
  match r with
  | .ok s      => k s
  | .halted s  => .halted s
  | .stuck f   => .stuck f
  | .refused x => .refused x

/-- The outcome of a whole operation: an internal fault is a next state (spec 60_exceptions.md R237). -/
def Run.toOutcome : Run → Host.Outcome State Fault Refusal
  | .ok s      => .next s
  | .halted s  => .next s
  | .stuck f   => .fault f
  | .refused x => .refused x

/-- Taking an internal fault: `FAULT.v` and `FAULT.code` are written and nothing else (spec 60_exceptions.md R240). -/
def takeFault (c : FaultCause) (s : State) : State := { s with fault := ⟨true, faultCode c⟩ }

/-- `raise InternalFault(code)` (spec 60_exceptions.md R240). -/
def raiseFault (c : FaultCause) (s : State) : Run := .halted (takeFault c s)

/-- Hardware reset, the only thing that clears `FAULT` (spec 70_reset_and_hazards.md R260). Configuration stays; so do
the inputs still to come, the record of what was sent and the free-value counter, which are the model's (assumption
log 18). -/
def hardReset (s : State) : State :=
  { State.initial s.par s.profiles with
    port := ⟨true, false, s.port.sent⟩
    pending := s.pending
    arrivals := s.arrivals
    cmdList := s.cmdList
    freeCtr := s.freeCtr }

/-- The exchange-step reset `step_reset()` (spec 70_reset_and_hazards.md R262; 10_state.md, column "step start"). -/
def stepReset (s : State) : State :=
  { s with
    pd := ⟨0, 0, 0, false⟩
    dt := ⟨0, 0, 0, false⟩
    frm := .clear
    seq := ⟨.idle, s.seq.step⟩
    capFull := false
    out := .clear
    cap := []
    sym := []
    pay := []
    rep := []
    emit := []
    log := []
    trace := [] }

/-- The selected profile `P = PROFILE[CFG.sel]`, if one has been selected (spec 10_state.md R15, R16; a selector beyond
the table is no row, assumption log 21). -/
def selectedProfile (s : State) : Option Profile := if s.cfg.valid then s.profiles[s.cfg.sel]? else none

/-- Reading `P`: `FAULT_BAD_PROFILE` where there is none (spec 10_state.md R16). -/
def withProfile (s : State) (k : Profile → Run) : Run :=
  match selectedProfile s with
  | none   => raiseFault .badProfile s
  | some P => k P

/-- Reading `P` in a unit that needs one kind of profile (spec 10_state.md R16). -/
def withKind (kind : Kind) (s : State) (k : Profile → Run) : Run :=
  withProfile s fun P => if P.kind = kind then k P else raiseFault .badProfile s

/-- No meaning under a profile that is not well formed (spec 00_scope.md R9; assumption log 10). -/
def admitting (P : Profile) (r : Run) : Run := if profileAdmitted P then r else .refused .profileIllFormed

/-- `CapPause()` (spec 20_memory.md R41). -/
def capPause (c : CaptureDev) : CaptureDev := { c with paused := true }

/-- `CapResume()` (spec 20_memory.md R41). -/
def capResume (c : CaptureDev) : CaptureDev := { c with paused := false }

/-- `CapClear()` (spec 20_memory.md R41). -/
def capClear (c : CaptureDev) : CaptureDev := { c with queue := [] }

/-- `CapLen()` (spec 20_memory.md R41). -/
def capLen (c : CaptureDev) : Nat := c.queue.length

/-- The peripheral appends a Duration unless it is paused (spec 20_memory.md R41). -/
def capArrive (d : Nat) (c : CaptureDev) : CaptureDev :=
  if c.paused then c else { c with queue := c.queue ++ [d] }

/-- `CapPop()`: the oldest Duration and the queue without it (spec 20_memory.md R41, R46). -/
def capPop (c : CaptureDev) : Option (Nat × CaptureDev) :=
  match c.queue with
  | []      => none
  | d :: ds => some (d, { c with queue := ds })

/-- Appending to the log: dropped silently when it is full (spec 20_memory.md R52). -/
def logPush (logMax : Nat) (log : List Nat) (d : Nat) : List Nat :=
  if log.length < logMax then log ++ [d] else log

/-- `Emit(EMIT)`: the whole buffer goes out at once, and the port is idle when it returns (spec 20_memory.md R42). -/
def emitAll (s : State) : State := { s with port := ⟨true, false, s.port.sent ++ [s.emit]⟩ }

/-- `RC.*` take free values: what the coder's registers hold after a repair is open (spec 93_implementation_defined.md
U6; assumption log 7). -/
def freeCoder (s : State) : State :=
  { s with
    rc := ⟨Config.freeRcResult s.freeCtr, (Config.freeRcMask s.freeCtr).setWidth 17, Config.freeRcData s.freeCtr⟩
    freeCtr := s.freeCtr + 1 }

end Sys2Proof.Machine
end

