-- ==== Sys2Proof/Machine/Quantizer.lean ====
section
/-! DEFINITION. The Tick Quantizer TQ and `QUANT` (spec 40_quantizer.md). -/

namespace Sys2Proof.Machine

/-- The tie rule on the floor quotient `q` (spec 40_quantizer.md R92). -/
def tieCount (tie : TieRule) (q : Nat) : Nat :=
  match tie with
  | .halfUp   => q + 1
  | .halfEven => if q % 2 = 0 then q else q + 1

/-- The tick count of `Q(d, T)` (spec 40_quantizer.md R90). -/
def quantTicks (tie : TieRule) (d T : Nat) : Nat :=
  if 2 * (d % T) < T then d / T
  else if T < 2 * (d % T) then d / T + 1
  else tieCount tie (d / T)

/-- `Q(d, T) = (ticks, |d - ticks*T|)` (spec 40_quantizer.md R90). -/
def quantize (tie : TieRule) (d T : Nat) : Nat × Nat :=
  (quantTicks tie d T, (d - quantTicks tie d T * T) + (quantTicks tie d T * T - d))

/-- `QUANT` (spec 40_quantizer.md R90, R93): a profile of either kind, `FAULT_DIV0` for a tick length of 0. -/
def execQuant (s : State) : Host.Outcome State Fault Refusal :=
  (withProfile s fun P =>
    if P.tickLen = 0 then raiseFault .div0 s
    else admitting P
      (.ok { s with tq := ⟨(quantize s.par.quantTie s.op.a P.tickLen).1, (quantize s.par.quantTie s.op.a P.tickLen).2⟩ })
  ).toOutcome

end Sys2Proof.Machine
end

