-- ==== Sys2Proof/Machine/Duty.lean ====
section
/-! DEFINITION. The duty/tick-counted decoder DTD and `DUTYDEC` (spec 42_duty_decoder.md). -/

namespace Sys2Proof.Machine

/-- What the decoder works on: its registers, `SYM` and `TRACE` (spec 42_duty_decoder.md R120). -/
structure DtWork where
  regs  : DtRegs
  sym   : List Symbol
  trace : List TraceChar
deriving DecidableEq, Repr

/-- A part of the decoder: the work so far, or the work as it stood when a `Push` found `SYM` full. -/
abbrev DtRun := Except DtWork DtWork

/-- `trace(s)`: appended in diagram mode only (spec 42_duty_decoder.md R120, R131). -/
def dtTrace (on : Bool) (cs : List TraceChar) (w : DtWork) : DtWork :=
  if on then { w with trace := w.trace ++ cs } else w

/-- `Push(SYM, x)`; `SYM` full is an internal fault (spec 42_duty_decoder.md R120). -/
def dtPush (symMax : Nat) (x : Symbol) (w : DtWork) : DtRun :=
  if symMax ≤ w.sym.length then .error w else .ok { w with sym := w.sym ++ [x] }

/-- The byte in progress is over: accumulator, tick count and open flag are cleared (spec 42_duty_decoder.md R120). -/
def dtClose (w : DtWork) : DtWork := { w with regs := { w.regs with acc := 0, tib := 0, opened := false } }

/-- The byte in progress padded with ones from position `DT.tib` up (spec 42_duty_decoder.md R124). -/
def dtPadded (r : DtRegs) : Byte := r.acc ||| onesFrom r.tib.toNat (8 - r.tib.toNat)

/-- `complete()` (spec 42_duty_decoder.md R120, R124). -/
def dtComplete (symMax : Nat) (on : Bool) (w : DtWork) : DtRun :=
  (dtPush symMax (.byte (dtPadded w.regs)) w).map fun v =>
    dtClose (dtTrace on (List.replicate (8 - w.regs.tib.toNat) .noPulse ++ [.byteBoundary]) v)

/-- `abort()` (spec 42_duty_decoder.md R120, R125). -/
def dtAbort (symMax : Nat) (on : Bool) (w : DtWork) : DtRun :=
  (dtPush symMax .byteError w).map fun v => dtClose (dtTrace on [.abortedByte] v)

/-- `shift(n)`: `n - 1` ones, then the pulse bit (spec 42_duty_decoder.md R120, R126). -/
def dtShift (pulseBit on : Bool) (n : Nat) (w : DtWork) : DtWork :=
  dtTrace on (List.replicate (n - 1) .noPulse ++ [.pulse])
    { w with regs :=
      { w.regs with
        acc := w.regs.acc ||| onesFrom w.regs.tib.toNat (n - 1) ||| bitAt pulseBit (w.regs.tib.toNat + (n - 1))
        tib := BitVec.ofNat 4 (w.regs.tib.toNat + n) } }

/-- The first pulse after a byte boundary opens a byte (spec 42_duty_decoder.md R122). -/
def dtOpen (on : Bool) (w : DtWork) : DtWork :=
  if w.regs.opened then w else dtTrace on [.pulse] { w with regs := { w.regs with opened := true } }

/-- A long Duration completes the open byte and signals `LongGap` (spec 42_duty_decoder.md R123). -/
def dtLongGap (symMax : Nat) (on : Bool) (w : DtWork) : DtRun :=
  match dtComplete symMax on w with
  | .error v => .error v
  | .ok v =>
    match dtPush symMax .longGap v with
    | .error u => .error u
    | .ok u => .ok (dtTrace on [.packetBoundary] u)

/-- What one pair of `n` ticks and off-grid error `e` does to an open byte: completion, then abort, then shift (spec
42_duty_decoder.md R124 to R127). -/
def dtTicks (par : EngineParams) (P : Profile) (on : Bool) (n e : Nat) (w : DtWork) : DtRun :=
  if par.byteTicks ≤ w.regs.tib.toNat + n then dtComplete par.symMax on w
  else if n = 0 ∨ P.tickMargin < e then dtAbort par.symMax on w
  else .ok (dtShift par.pulseBit on n w)

/-- One pair of Durations: long gap first, else the quantized sum (spec 42_duty_decoder.md R121, R123, R127). -/
def dtPair (par : EngineParams) (P : Profile) (on : Bool) (p g : Nat) (w : DtWork) : DtRun :=
  if par.longGap < p ∨ par.longGap < g then dtLongGap par.symMax on w
  else dtTicks par P on (quantize par.quantTie (p + g) P.tickLen).1 (quantize par.quantTie (p + g) P.tickLen).2 w

/-- The cursor moves past `n` Durations. -/
def dtAdvance (n : Nat) (w : DtWork) : DtWork := { w with regs := { w.regs with cur := w.regs.cur + n } }

/-- The loop of `DUTYDEC` over the Durations from the cursor on, pulses at even places (spec 42_duty_decoder.md R120). -/
def dtLoop (par : EngineParams) (P : Profile) (on : Bool) : List Nat → DtWork → DtRun
  | [], w => .ok w
  | [p], w =>
    if par.longGap < p then (dtLongGap par.symMax on (dtOpen on w)).map (dtAdvance 1)
    else .ok (dtAdvance 1 (dtOpen on w))
  | p :: g :: ds, w =>
    match dtPair par P on p g (dtOpen on w) with
    | .error v => .error v
    | .ok v => dtLoop par P on ds (dtAdvance 2 v)

/-- The loop and the flush of a byte still open at the end of the input (spec 42_duty_decoder.md R120, R128). -/
def dtDecode (par : EngineParams) (P : Profile) (on : Bool) (ds : List Nat) (w : DtWork) : DtRun :=
  match dtLoop par P on ds w with
  | .error v => .error v
  | .ok v => if v.regs.opened then dtComplete par.symMax on v else .ok v

/-- `DUTYDEC` clears its outputs first and takes the `t` bit (spec 42_duty_decoder.md R120). -/
def dtStart (t : Bool) (s : State) : State :=
  { s with sym := [], dt := ⟨0, 0, 0, false⟩, cfg := { s.cfg with trace := t }, trace := [] }

/-- The decoder's work written back. -/
def dtStore (w : DtWork) (s : State) : State := { s with dt := w.regs, sym := w.sym, trace := w.trace }

/-- The body of `DUTYDEC` under a profile of kind `DUTY` (spec 42_duty_decoder.md R120). -/
def dutydecCore (t : Bool) (P : Profile) (s : State) : Run :=
  if P.tickLen = 0 then raiseFault .div0 (dtStart t s)
  else
    match dtDecode s.par P t s.cap ⟨⟨0, 0, 0, false⟩, [], []⟩ with
    | .error w => raiseFault .symOverflow (dtStore w (dtStart t s))
    | .ok w => .ok (dtStore w (dtStart t s))

/-- `DUTYDEC` (spec 42_duty_decoder.md R120); `FAULT_DIV0` comes before any other look at the profile's values (spec
60_exceptions.md R236; assumption log 10). -/
def execDutydec (t : Bool) (s : State) : Host.Outcome State Fault Refusal :=
  (withKind .duty s fun P =>
    if P.tickLen = 0 then dutydecCore t P s else admitting P (dutydecCore t P s)).toOutcome

end Sys2Proof.Machine
end

