-- ==== Sys2Proof/Machine/Redundancy.lean ====
section
/-! DEFINITION. The redundancy coder RDC, `CHECK` and `AUTOFIX` (spec 44_redundancy.md). -/

namespace Sys2Proof.Machine

/-- The mask after one shift, folded back when it reaches 0x10000 (spec 44_redundancy.md R170, R179). -/
def maskNext (feedback mask : BitVec 17) : BitVec 17 :=
  if (0x10000 : BitVec 17) ≤ mask <<< 1 then (mask <<< 1) ^^^ feedback else mask <<< 1

/-- One of the sixteen rounds of `check` (spec 44_redundancy.md R170). -/
def checkRound (feedback : BitVec 17) (r : RcRegs) : RcRegs where
  result := if r.data.getLsbD 0 then r.result ^^^ r.mask.setWidth 16 else r.result
  mask   := maskNext feedback r.mask
  data   := r.data >>> 1

/-- `n` rounds of `check`. -/
def checkRounds (feedback : BitVec 17) : Nat → RcRegs → RcRegs
  | 0, r => r
  | n + 1, r => checkRounds feedback n (checkRound feedback r)

/-- The coder's registers when `check(data)` returns (spec 44_redundancy.md R170). -/
def checkRegs (par : EngineParams) (data : Half) : RcRegs :=
  checkRounds par.feedback 16 ⟨par.resultSeed, par.maskSeed.setWidth 17, data⟩

/-- The check value `check(data)` (spec 44_redundancy.md R170). -/
def checkValue (par : EngineParams) (data : Half) : Half := (checkRegs par data).result

/-- All sixteen bits but bit `b` (spec 44_redundancy.md R174). -/
def keepMask (b : Nat) : Half := 0xFFFF ^^^ ((1 : Half) <<< b)

/-- The two tests `autofix` makes at bit `b`, the check half first (spec 44_redundancy.md R174, R175). -/
def autofixAt (par : EngineParams) (data given : Half) (b : Nat) : Option Half :=
  if checkValue par data = given &&& keepMask b then some data
  else if checkValue par (data &&& keepMask b) = given then some (data &&& keepMask b)
  else none

/-- `autofix(data, given)` (spec 44_redundancy.md R174): the bits are tried from low to high. -/
def autofixValue (par : EngineParams) (data given : Half) : Option Half :=
  if checkValue par data = given then some data
  else (List.range 16).findSome? (autofixAt par data given)

/-- The result registers for an optional 16-bit value (spec 44_redundancy.md R174). -/
def resOf : Option Half → ResRegs
  | some d => ⟨true, d.toNat⟩
  | none   => ⟨false, 0⟩

/-- `CHECK` (spec 44_redundancy.md R170): needs no profile and is total. -/
def execCheck (s : State) : Host.Outcome State Fault Refusal :=
  .next { s with
    rc := checkRegs s.par (lowHalf s.op.a)
    res := resOf (some (checkValue s.par (lowHalf s.op.a))) }

/-- `AUTOFIX` (spec 44_redundancy.md R174): needs no profile and is total; `RC.*` are open after it (assumption log 7). -/
def execAutofix (s : State) : Host.Outcome State Fault Refusal :=
  .next (freeCoder { s with res := resOf (autofixValue s.par (lowHalf s.op.a) (lowHalf s.op.b)) })

end Sys2Proof.Machine
end

