-- ==== Sys2Proof/Machine/Framer.lean ====
section
/-! DEFINITION. The packet framer FRM, `FRAME` and `CROP` (spec 43_framer.md). -/

namespace Sys2Proof.Machine

/-- What the framer works on: its registers, `PAY` and `REP` (spec 43_framer.md R140). -/
structure FrmWork where
  regs : FrmRegs
  pay  : List PayEntry
  rep  : List Report
deriving DecidableEq, Repr

/-- A part of the framer: the work so far, or the fault raised and the work as it stood then. -/
abbrev FrmRun := Except (FaultCause × FrmWork) FrmWork

/-- `pay_push(e)` (spec 43_framer.md R140, R155). -/
def payPush (payloadMax : Nat) (e : PayEntry) (w : FrmWork) : FrmRun :=
  if payloadMax ≤ w.pay.length then .error (.payloadOverflow, w) else .ok { w with pay := w.pay ++ [e] }

/-- An `Invalid` entry marks the packet bad (spec 43_framer.md R148, R149). -/
def payPushInvalid (payloadMax : Nat) (w : FrmWork) : FrmRun :=
  (payPush payloadMax .invalid w).map fun v => { v with regs := { v.regs with bad := true } }

/-- The report pending aborted outcomes give (spec 43_framer.md R153). -/
def noiseReports (abortRun : BitVec 2) : List Report :=
  if abortRun = 1 then [⟨.noise1, 0, []⟩] else if abortRun = 2 then [⟨.noise2, 0, []⟩] else []

/-- `flush_noise()` (spec 43_framer.md R140, R153). -/
def flushNoise (w : FrmWork) : FrmWork :=
  { w with rep := w.rep ++ noiseReports w.regs.abortRun, regs := { w.regs with abortRun := 0 } }

/-- The report of a payload read as a Redundancy Pair (spec 43_framer.md R152). -/
def pairReport (par : EngineParams) (data given : Half) (raw : List PayEntry) : Report :=
  if checkValue par data = given then ⟨.ok, data, raw⟩
  else
    match autofixValue par data given with
    | some d => ⟨.autofix, d, raw⟩
    | none   => ⟨.chkfail, 0, raw⟩

/-- The report of a closed packet: a pair when it has `PAIR_LEN` entries and none is bad (spec 43_framer.md R152,
20_memory.md R44, R45). -/
def packetReport (par : EngineParams) (pay : List PayEntry) (bad : Bool) : Report :=
  if pay.length = par.pairLen ∧ bad = false then
    match pay with
    | p0 :: p1 :: p2 :: p3 :: _ =>
      pairReport par (pairOf (entryValue p0) (entryValue p1)) (pairOf (entryValue p2) (entryValue p3)) pay
    | _ => ⟨.error, 0, pay⟩
  else ⟨.error, 0, pay⟩

/-- `close()` (spec 43_framer.md R140, R152). -/
def closePacket (par : EngineParams) (w : FrmWork) : FrmWork :=
  { (flushNoise w) with
    rep := (flushNoise w).rep ++ [packetReport par w.pay w.regs.bad]
    regs := { (flushNoise w).regs with st := .seeking, idx := 0, esc := false, bad := false } }

/-- `abort(s)`; `boundary` says that `s` ends the packet itself (spec 43_framer.md R140, R151). -/
def abortPacket (boundary : Bool) (w : FrmWork) : FrmWork :=
  { w with regs :=
    { w.regs with
      mmValid  := true
      mmPos    := if w.regs.mmValid then w.regs.mmPos else w.regs.cur
      abortRun := abortRunNext w.regs.abortRun
      idx      := 0
      st       := if boundary then .seeking else .aborted } }

/-- The symbol ends a packet: `LongGap`, the terminator byte, or the end of the data (spec 43_framer.md R150, R151). -/
def isBoundary (P : Profile) (s : Symbol) : Bool := s == .longGap || s == .byte P.term || s == .endMark

/-- The symbol is skipped before the template: `LongGap` or a trailer byte (spec 43_framer.md R141). -/
def isSkipped (P : Profile) (s : Symbol) : Bool :=
  match s with
  | .byte v    => P.trailer.contains v
  | .longGap   => true
  | .byteError => false
  | .endMark   => false

/-- The symbol is the template byte at position `i` (spec 43_framer.md R142). -/
def matchesTemplate (P : Profile) (i : Nat) (s : Symbol) : Bool :=
  match P.startSeq[i]? with
  | some v => s == .byte v
  | none   => false

/-- A symbol in `Seeking` (spec 43_framer.md R141). -/
def frmSeeking (P : Profile) (s : Symbol) (w : FrmWork) : FrmWork :=
  if isSkipped P s then w
  else if matchesTemplate P 0 s then { w with regs := { w.regs with idx := 1, st := .inStartSequence } }
  else abortPacket (isBoundary P s) w

/-- A symbol in `InStartSequence` (spec 43_framer.md R142, R144). -/
def frmMatching (P : Profile) (s : Symbol) (w : FrmWork) : FrmWork :=
  if matchesTemplate P w.regs.idx.toNat s then
    if w.regs.idx.toNat + 1 = P.startSeq.length then
      { w with
        pay := []
        regs := { w.regs with idx := w.regs.idx + 1, esc := false, bad := false, st := .inPayload } }
    else { w with regs := { w.regs with idx := w.regs.idx + 1 } }
  else abortPacket (isBoundary P s) w

/-- The symbol after an escape byte (spec 43_framer.md R146, R148). -/
def frmEscaped (par : EngineParams) (s : Symbol) (w : FrmWork) : FrmRun :=
  if s = .byte par.escCode0 then payPush par.payloadMax (.valid par.escVal0) w
  else if s = .byte par.escCode1 then payPush par.payloadMax (.valid par.escVal1) w
  else (payPushInvalid par.payloadMax w).map fun v => if s = .longGap then closePacket par v else v

/-- A symbol in `InPayload` with no escape pending (spec 43_framer.md R145 to R147, R149). -/
def frmPlain (par : EngineParams) (P : Profile) (s : Symbol) (w : FrmWork) : FrmRun :=
  if s = .byte par.esc then .ok { w with regs := { w.regs with esc := true } }
  else if s = .byte P.term ∨ s = .longGap then .ok (closePacket par w)
  else
    match s with
    | .byte v    => payPush par.payloadMax (.valid v) w
    | .byteError => payPushInvalid par.payloadMax w
    | .longGap   => .ok (closePacket par w)
    | .endMark   => .error (.badSymbol, w)

/-- A symbol in `InPayload` (spec 43_framer.md R140). -/
def frmPayload (par : EngineParams) (P : Profile) (s : Symbol) (w : FrmWork) : FrmRun :=
  if w.regs.esc then frmEscaped par s { w with regs := { w.regs with esc := false } }
  else frmPlain par P s w

/-- A symbol in `Aborted` (spec 43_framer.md R150). -/
def frmAborted (P : Profile) (s : Symbol) (w : FrmWork) : FrmWork :=
  if s = .longGap ∨ s = .byte P.term then { w with regs := { w.regs with st := .seeking } } else w

/-- The case of the framer's state (spec 43_framer.md R140). -/
def frmCase (par : EngineParams) (P : Profile) (s : Symbol) (w : FrmWork) : FrmRun :=
  match w.regs.st with
  | .seeking         => .ok (frmSeeking P s w)
  | .inStartSequence => .ok (frmMatching P s w)
  | .inPayload       => frmPayload par P s w
  | .aborted         => .ok (frmAborted P s w)

/-- One turn of the loop of `FRAME`: a stored `END` is a fault (spec 43_framer.md R155), else the symbol is consumed. -/
def frmSymbol (par : EngineParams) (P : Profile) (s : Symbol) (w : FrmWork) : FrmRun :=
  if s = .endMark then .error (.badSymbol, w)
  else (frmCase par P s w).map fun v => { v with regs := { v.regs with cur := v.regs.cur + 1 } }

/-- The loop of `FRAME` over the symbols from the cursor on (spec 43_framer.md R140). -/
def frmLoop (par : EngineParams) (P : Profile) : List Symbol → FrmWork → FrmRun
  | [], w => .ok w
  | s :: ss, w =>
    match frmSymbol par P s w with
    | .error e => .error e
    | .ok v => frmLoop par P ss v

/-- The end of the data acts on what is open (spec 43_framer.md R154). -/
def frmAtEnd (par : EngineParams) (w : FrmWork) : FrmRun :=
  match w.regs.st with
  | .seeking         => .ok w
  | .inStartSequence => .ok (abortPacket true w)
  | .inPayload       =>
    if w.regs.esc then
      (payPushInvalid par.payloadMax { w with regs := { w.regs with esc := false } }).map (closePacket par)
    else .ok (closePacket par w)
  | .aborted         => .ok w

/-- Pending noise is flushed, the `END` report appended, the framer back in `Seeking` (spec 43_framer.md R154, R156). -/
def frmFinish (w : FrmWork) : FrmWork :=
  { (flushNoise w) with
    rep := (flushNoise w).rep ++ [⟨.finish, 0, []⟩]
    regs := { (flushNoise w).regs with st := .seeking, idx := 0 } }

/-- The whole framer on a list of symbols, from its cleared registers (spec 43_framer.md R140). -/
def frmRun (par : EngineParams) (P : Profile) (ss : List Symbol) : FrmRun :=
  match frmLoop par P ss ⟨.clear, [], []⟩ with
  | .error e => .error e
  | .ok v => (frmAtEnd par v).map frmFinish

/-- The framer's work written back: `PAY`, `REP`, `FRM.*` (spec 30_encoding.md R62). `RC.*` belong to the coder's own
operations (10_state.md R12; assumption log 8). -/
def frmStore (w : FrmWork) (s : State) : State := { s with frm := w.regs, pay := w.pay, rep := w.rep }

/-- The body of `FRAME` under a profile of kind `DUTY` (spec 43_framer.md R140). -/
def frameCore (P : Profile) (s : State) : Run :=
  match frmRun s.par P s.sym with
  | .error (c, w) => raiseFault c (frmStore w s)
  | .ok w => .ok (frmStore w s)

/-- `FRAME` (spec 43_framer.md R140). -/
def execFrame (s : State) : Host.Outcome State Fault Refusal :=
  (withKind .duty s fun P => admitting P (frameCore P s)).toOutcome

/-- The bytes `CROP` leaves of `SYM` (spec 43_framer.md R160). -/
def cropped (P : Profile) (sym : List Symbol) : List PayEntry :=
  ((sym.drop P.cropLead.toNat).take (sym.length - P.cropLead.toNat - P.cropTrail.toNat)).filterMap fun
    | .byte v    => some (.valid v)
    | .byteError => none
    | .longGap   => none
    | .endMark   => none

/-- The body of `CROP` under a profile of kind `PD` (spec 43_framer.md R160 to R162). -/
def cropCore (P : Profile) (s : State) : Run :=
  if s.sym.all isByte then
    if s.sym.length < P.cropLead.toNat + P.cropTrail.toNat then
      .ok { s with
        pay := [], rep := []
        out := outBad .tooShort s.sym.length (P.cropLead.toNat + P.cropTrail.toNat) }
    else if s.par.payloadMax < (cropped P s.sym).length then
      raiseFault .payloadOverflow
        { s with pay := (cropped P s.sym).take s.par.payloadMax, rep := [], out := .clear }
    else
      .ok { s with
        pay := cropped P s.sym
        rep := [⟨.dump, 0, cropped P s.sym⟩]
        out := outBytes }
  else raiseFault .badSymbol { s with pay := [], rep := [], out := .clear }

/-- `CROP` (spec 43_framer.md R160). -/
def execCrop (s : State) : Host.Outcome State Fault Refusal :=
  (withKind .pd s fun P => admitting P (cropCore P s)).toOutcome

end Sys2Proof.Machine
end

