-- ==== Sys2Proof/Machine/Modulator.lean ====
section
/-! DEFINITION. The byte-level modulator MOD, `MODPD` and `MODDUTY` (spec 45_modulator.md). Both fill `EMIT` and transmit
nothing (R189). -/

namespace Sys2Proof.Machine

/-- The pulse and the gap of bit `k` of a byte (spec 45_modulator.md R185, R186). -/
def pdBit (P : Profile) (v : Byte) (k : Nat) : List Nat :=
  [P.bitPulse.send, if v.getLsbD k then P.bitGapSendLong else P.bitGapSendShort]

/-- The sixteen slots of a byte, bit 0 first (spec 45_modulator.md R186). -/
def pdByte (P : Profile) (v : Byte) : List Nat := (List.range 8).flatMap (pdBit P v)

/-- The durations of a pulse-distance transmission (spec 45_modulator.md R185, 30_encoding.md R68). -/
def pdEmission (P : Profile) (bs : List Byte) : List Nat :=
  [P.startPulse.send, P.startGap.send] ++ bs.flatMap (pdByte P) ++ [P.stopPulse.send, P.stopGap.send]

/-- The body of `MODPD` under a profile of kind `PD`; the length is tested before anything is written (spec
45_modulator.md R185, R188). -/
def modpdCore (P : Profile) (s : State) : Run :=
  if s.par.emitMax < 16 * s.txb.length + 4 then raiseFault .emitOverflow { s with emit := [] }
  else .ok { s with emit := (pdEmission P s.txb).map .bare }

/-- `MODPD` (spec 45_modulator.md R185). -/
def execModpd (s : State) : Host.Outcome State Fault Refusal :=
  (withKind .pd s fun P => admitting P (modpdCore P s)).toOutcome

/-- `tick(1)` and `tick(0)` (spec 45_modulator.md R190). -/
def dutyTick (P : Profile) (pulse : Bool) : List EmitEntry :=
  if pulse then
    if P.dutyPulseSend < P.tickLen then [.level true P.dutyPulseSend, .level false (P.tickLen - P.dutyPulseSend)]
    else [.level true P.dutyPulseSend]
  else [.level false P.tickLen]

/-- The frame of a byte: start tick, eight data ticks LSB first, idle ticks (spec 45_modulator.md R190, R192). -/
def dutyByte (pulseBit : Bool) (P : Profile) (v : Byte) : List EmitEntry :=
  dutyTick P true ++ (List.range 8).flatMap (fun i => dutyTick P (v.getLsbD i == pulseBit)) ++
    (List.replicate P.dutyStopTicks.toNat (dutyTick P false)).flatten

/-- The entries of a duty transmission (spec 45_modulator.md R190). -/
def dutyEmission (pulseBit : Bool) (P : Profile) (bs : List Byte) : List EmitEntry := bs.flatMap (dutyByte pulseBit P)

/-- The most entries a byte can need (spec 45_modulator.md R190, R193). -/
def dutyPerByte (P : Profile) : Nat :=
  9 + P.dutyStopTicks.toNat + (if P.dutyPulseSend < P.tickLen then 9 else 0)

/-- The body of `MODDUTY` under a profile of kind `DUTY`; the worst case is tested before anything is written (spec
45_modulator.md R190, R193). -/
def moddutyCore (P : Profile) (s : State) : Run :=
  if s.par.emitMax < s.txb.length * dutyPerByte P then raiseFault .emitOverflow { s with emit := [] }
  else .ok { s with emit := dutyEmission s.par.pulseBit P s.txb }

/-- `MODDUTY` (spec 45_modulator.md R190). -/
def execModduty (s : State) : Host.Outcome State Fault Refusal :=
  (withKind .duty s fun P => admitting P (moddutyCore P s)).toOutcome

end Sys2Proof.Machine
end

