-- ==== Sys2Proof/Machine/PulseDistance.lean ====
section
/-! DEFINITION. The pulse-distance decoder PDD and `PDDEC` (spec 41_pd_decoder.md). -/

namespace Sys2Proof.Machine

/-- What the decoder's loop works on: its registers and `SYM` (spec 41_pd_decoder.md R100). -/
structure PdWork where
  regs : PdRegs
  sym  : List Symbol
deriving DecidableEq, Repr

/-- How the loop ends: at a stream end (R107, R108), with a bad packet, or on a full `SYM`. -/
inductive PdEnd where
  | streamEnd
  | bad (r : BadReason) (position value : Nat)
  | symFull
deriving DecidableEq, Repr

/-- The bit a gap stands for: strictly above the threshold is 1 (spec 41_pd_decoder.md R103). -/
def gapBit (P : Profile) (g : Nat) : Bool := decide (P.bitGapThreshold < g)

/-- The registers after a bit has been placed and counted (spec 41_pd_decoder.md R104). -/
def pdPlaceBit (P : Profile) (g : Nat) (r : PdRegs) : PdRegs :=
  { r with acc := r.acc ||| bitAt (gapBit P g) (r.nbits % 8), nbits := r.nbits + 1 }

/-- A completed byte is delivered and the accumulator cleared (spec 41_pd_decoder.md R105); the cursor passes the pair. -/
def pdDeliver (r : PdRegs) (sym : List Symbol) : PdWork :=
  if r.nbits % 8 = 0 then ⟨{ r with acc := 0, cur := r.cur + 2 }, sym ++ [.byte r.acc]⟩
  else ⟨{ r with cur := r.cur + 2 }, sym⟩

/-- The loop of `PDDEC` over the Durations from the cursor on (spec 41_pd_decoder.md R100, R102 to R110). -/
def pdLoop (symMax : Nat) (P : Profile) : List Nat → PdWork → PdWork × PdEnd
  | [], w => (w, .streamEnd)
  | [p], w =>
    if inBounds p P.bitPulse then (w, .bad .truncated w.regs.nbits p)
    else if inBounds p P.stopPulse then (⟨{ w.regs with cur := w.regs.cur + 1, stop := true }, w.sym⟩, .streamEnd)
    else (w, .bad .pulse w.regs.nbits p)
  | p :: g :: ds, w =>
    if inBounds p P.bitPulse then
      if inRange g P.bitGapMin P.bitGapMax then
        if (pdPlaceBit P g w.regs).nbits % 8 = 0 ∧ symMax ≤ w.sym.length then
          (⟨pdPlaceBit P g w.regs, w.sym⟩, .symFull)
        else pdLoop symMax P ds (pdDeliver (pdPlaceBit P g w.regs) w.sym)
      else (w, .bad .bitGap w.regs.nbits g)
    else if inBounds p P.stopPulse then (⟨{ w.regs with cur := w.regs.cur + 1, stop := true }, w.sym⟩, .streamEnd)
    else (w, .bad .pulse w.regs.nbits p)

/-- `PDDEC` clears its outputs first (spec 41_pd_decoder.md R100). -/
def pdStart (s : State) : State := { s with sym := [], pd := ⟨0, 0, 0, false⟩, out := .clear }

/-- `raise BadPacket(r, position, value)`: `SYM` is emptied, the registers keep their values (spec 41_pd_decoder.md
R111). -/
def pdBad (r : BadReason) (position value : Nat) (s : State) : State :=
  { s with sym := [], out := outBad r position value }

/-- After the loop: the whole-byte test of spec 41_pd_decoder.md R107. -/
def pdFinish (s : State) (r : PdWork × PdEnd) : Run :=
  match r.2 with
  | .streamEnd =>
    if r.1.regs.nbits % 8 = 0 then .ok { s with pd := r.1.regs, sym := r.1.sym, out := outBytes }
    else .ok (pdBad .bitCount r.1.regs.nbits r.1.regs.acc.toNat { s with pd := r.1.regs, sym := r.1.sym })
  | .bad reason position value => .ok (pdBad reason position value { s with pd := r.1.regs, sym := r.1.sym })
  | .symFull => raiseFault .symOverflow { s with pd := r.1.regs, sym := r.1.sym }

/-- The body of `PDDEC` under a profile of kind `PD` (spec 41_pd_decoder.md R100). -/
def pddecCore (P : Profile) (s : State) : Run :=
  match s.cap with
  | [] => .ok (pdBad .empty 0 0 (pdStart s))
  | d0 :: rest =>
    if inBounds d0 P.startPulse then
      match rest with
      | [] => .ok (pdBad .truncated 0 d0 (pdStart s))
      | d1 :: ds =>
        if inBounds d1 P.startGap then
          pdFinish (pdStart s) (pdLoop s.par.symMax P ds ⟨⟨0, 0, 2, false⟩, []⟩)
        else .ok (pdBad .startGap 0 d1 (pdStart s))
    else .ok (pdBad .startPulse 0 d0 (pdStart s))

/-- `PDDEC` (spec 41_pd_decoder.md R100). -/
def execPddec (s : State) : Host.Outcome State Fault Refusal :=
  (withKind .pd s fun P => admitting P (pddecCore P s)).toOutcome

end Sys2Proof.Machine
end

