-- ==== Sys2Proof/Machine/Sequencer.lean ====
section
/-! DEFINITION. The exchange sequencer SEQ: `PROFSEL`, `XRESET`, `RXSTEP`, `TXRXSTEP`, `CONVERSE` (spec
46_sequencer.md). -/

namespace Sys2Proof.Machine

/-- The selection of family `OP.a` (spec 46_sequencer.md R200); `N_PROFILES` is the table's length. -/
def selectProfile (s : State) : Run :=
  if s.profiles.length ≤ s.op.a then raiseFault .badProfile s
  else .ok { s with cfg := { s.cfg with sel := s.op.a, valid := true } }

/-- `PROFSEL` (spec 46_sequencer.md R200). -/
def execProfsel (s : State) : Host.Outcome State Fault Refusal := (selectProfile s).toOutcome

/-- `XRESET` (spec 46_sequencer.md R201): the exchange-step reset, then `CapPause(); CapClear()`. -/
def execXreset (s : State) : Host.Outcome State Fault Refusal :=
  .next { (stepReset s) with capDev := capClear (capPause s.capDev) }

/-- What a capture has taken, and the peripheral it takes from (spec 46_sequencer.md R205). -/
structure Capture where
  cap : List Nat
  log : List Nat
  dev : CaptureDev
deriving DecidableEq, Repr

/-- The ends of a capture (spec 46_sequencer.md R205); `captured full` says whether the buffer was full (R208). -/
inductive CaptureEnd where
  | nothingReceived
  | captured (full : Bool)
  | tooLong
deriving DecidableEq, Repr

/-- `take(i)`: the Duration arrives, is popped, and goes to `CAP` and `LOG` (spec 46_sequencer.md R205). -/
def capTake (logMax : Nat) (d : Nat) (c : Capture) : Capture :=
  match capPop (capArrive d c.dev) with
  | none => c
  | some (x, dev) => ⟨c.cap ++ [x], logPush logMax c.log x, dev⟩

/-- The Durations that have arrived by time `t` and were not taken stay in `CQ` (assumption log 13). -/
def arriveUntil (t : Nat) (rest : List Arrival) (dev : CaptureDev) : CaptureDev :=
  (rest.takeWhile fun a => decide (a.time ≤ t)).foldl (fun q a => capArrive a.dur q) dev

/-- The silence after the Duration that arrived at `aj` ends the capture (spec 46_sequencer.md R205, R207, R209). -/
def captureSilence (C L a0 aj : Nat) (c : Capture) : Capture × CaptureEnd :=
  if L < aj + C - a0 then (c, .tooLong) else (c, .captured false)

/-- The loop of a capture after the Duration that arrived at `aj` was taken (spec 46_sequencer.md R205, R207 to R209). -/
def captureLoop (par : EngineParams) (C L a0 : Nat) : List Arrival → Nat → Capture → Capture × CaptureEnd
  | [], aj, c =>
    if par.captureMax ≤ c.cap.length then (c, .captured true) else captureSilence C L a0 aj c
  | a :: rest, aj, c =>
    if par.captureMax ≤ c.cap.length then
      ({ c with dev := arriveUntil aj (a :: rest) c.dev }, .captured true)
    else if a.time - aj ≤ C then
      if L < a.time - a0 then ({ c with dev := arriveUntil a.time (a :: rest) c.dev }, .tooLong)
      else captureLoop par C L a0 rest a.time (capTake par.logMax a.dur c)
    else captureSilence C L a0 aj c

/-- A time is before the limit `W`; no limit is `INF` (spec 46_sequencer.md R206). -/
def beforeLimit (t : Nat) : Option Nat → Bool
  | none   => true
  | some W => decide (t < W)

/-- What arrives up to the limit `W` and is not taken, when nothing arrived before it (assumption log 13). -/
def arriveByLimit (W : Option Nat) (tr : List Arrival) (dev : CaptureDev) : CaptureDev :=
  match W with
  | none   => dev
  | some t => arriveUntil t tr dev

/-- `capture(A, W)` from an empty `CAP` (spec 46_sequencer.md R205, R206). The wait without end is `receive`'s. -/
def capture (par : EngineParams) (P : Profile) (W : Option Nat) (tr : List Arrival) (c : Capture) :
    Capture × CaptureEnd :=
  match tr with
  | [] => (c, .nothingReceived)
  | a :: rest =>
    if beforeLimit a.time W then
      captureLoop par P.packetContinueTimeout P.packetLengthTimeout a.time rest a.time (capTake par.logMax a.dur c)
    else ({ c with dev := arriveByLimit W tr c.dev }, .nothingReceived)

/-- The outcome of a duty capture by what the framer found (spec 46_sequencer.md R211). -/
def dutyOutcome (s : State) : OutRegs :=
  if s.rep.any isPacketReport then { s.out with kind := .bytes }
  else if s.frm.mmValid then
    outBad .framing s.frm.mmPos (symbolCode ((s.sym[s.frm.mmPos]?).getD .endMark)).toNat
  else { s.out with kind := .bytes }

/-- `decode_step()`: the profile's kind chooses the path (spec 46_sequencer.md R211). -/
def decodeStep (t : Bool) (P : Profile) (s : State) : Run :=
  match P.kind with
  | .pd =>
    (pddecCore P s).andThen fun s1 => if s1.out.kind = .bytes then cropCore P s1 else .ok s1
  | .duty =>
    (dutydecCore t P s).andThen fun s1 =>
      (frameCore P s1).andThen fun s2 => .ok { s2 with out := dutyOutcome s2 }

/-- The step ends in the state its outcome names (spec 46_sequencer.md R210). -/
def endStep (s : State) : State := { s with seq := { s.seq with st := terminalState s.out.kind s.seq.st } }

/-- The receive of a step is answered by the next arrival trace; with none left nothing arrives (spec 46_sequencer.md
R203; assumption log 2). -/
def nextTrace (s : State) : List Arrival := s.arrivals.headD []

/-- The bracket opens and the wait begins: `CapPause(); CapClear(); CapResume()`, `CAP` empty (spec 46_sequencer.md
R204, R205). -/
def openReceive (s : State) : State :=
  { s with
    arrivals := s.arrivals.tail
    capDev := capResume (capClear (capPause s.capDev))
    cap := []
    capFull := false
    seq := { s.seq with st := .waitingForStart } }

/-- What the capture took is in `CAP` and `LOG`, and the bracket closes with `CapPause()` (spec 46_sequencer.md R204,
R205). -/
def closeReceive (c : Capture) (s : State) : State :=
  { s with cap := c.cap, log := c.log, capDev := capPause c.dev }

/-- The step goes on from the end of its capture (spec 46_sequencer.md R210). -/
def afterCapture (t : Bool) (P : Profile) (s : State) (r : Capture × CaptureEnd) : Run :=
  match r.2 with
  | .nothingReceived => .ok (endStep { (closeReceive r.1 s) with out := outTimedOut })
  | .tooLong =>
    .ok (endStep
      { (closeReceive r.1 s) with
        seq := { s.seq with st := .receiving }
        out := outBad .tooLong r.1.cap.length P.packetLengthTimeout })
  | .captured full =>
    (decodeStep t P
      { (closeReceive r.1 s) with seq := { s.seq with st := .receiving }, capFull := full }).andThen
      fun s1 => .ok (endStep s1)

/-- `receive(W)` (spec 46_sequencer.md R210, R217); a trace that is not ascending has no meaning (assumption log 11). -/
def receive (t : Bool) (P : Profile) (W : Option Nat) (s : State) : Run :=
  if traceAdmitted s.par (nextTrace s) then
    if nextTrace s = [] ∧ W = none then .stuck .waitForever
    else
      afterCapture t P (openReceive s)
        (capture s.par P W (nextTrace s) ⟨[], s.log, (openReceive s).capDev⟩)
  else .refused .traceIllFormed

/-- Every step starts with the exchange-step reset and takes its `t` bit (spec 46_sequencer.md R210, R212). -/
def startStep (t : Bool) (s : State) : State := { (stepReset s) with cfg := { s.cfg with trace := t } }

/-- A receive-first step (spec 46_sequencer.md R210, R213). -/
def rxStep (w t : Bool) (s : State) : Run :=
  withProfile (startStep t s) fun P =>
    admitting P (receive t P (if w then none else some P.replyTimeout) (startStep t s))

/-- The modulator the profile's kind chooses (spec 46_sequencer.md R212). -/
def modulate (P : Profile) (s : State) : Run :=
  match P.kind with
  | .pd   => modpdCore P s
  | .duty => moddutyCore P s

/-- A transmit-first step (spec 46_sequencer.md R212, R213). -/
def txrxStep (t : Bool) (s : State) : Run :=
  withProfile (startStep t s) fun P =>
    admitting P ((modulate P (startStep t s)).andThen fun s1 =>
      receive t P (some P.replyTimeout) (emitAll s1))

/-- `RXSTEP` (spec 46_sequencer.md R210). -/
def execRxstep (w t : Bool) (s : State) : Host.Outcome State Fault Refusal := (rxStep w t s).toOutcome

/-- `TXRXSTEP` (spec 46_sequencer.md R212). -/
def execTxrxstep (t : Bool) (s : State) : Host.Outcome State Fault Refusal := (txrxStep t s).toOutcome

/-- A step of a conversation has reached an outcome: it is counted and its result handed out (spec 46_sequencer.md
R214, R216; 70_reset_and_hazards.md R272). -/
def recordStep (done : Nat) (s : State) : State :=
  { s with
    conv := { s.conv with done := count16 done }
    results := s.results ++ [⟨s.out, s.rep, s.trace⟩] }

/-- A step whose outcome is not `Bytes` is the last one (spec 46_sequencer.md R214, R216). -/
def stopConversation (done total : Nat) (s : State) : State :=
  { s with conv := { s.conv with aborted := decide (done < total) } }

/-- The packets still to be sent, after `done` steps (spec 46_sequencer.md R214, R215). DESIGN CHOICE: a packet longer than
`TXB` faults before its step, so before 00_scope.md R9's refusal of an ill-formed profile (assumption log 25). -/
def conversePackets (t : Bool) (total : Nat) : List (List Byte) → Nat → State → Run
  | [], _, s => .ok s
  | p :: ps, done, s =>
    if s.par.txMax < p.length then
      raiseFault .txOverflow { s with seq := { s.seq with step := count16 done } }
    else
      (txrxStep t { s with seq := { s.seq with step := count16 done }, txb := p }).andThen fun s1 =>
        if s1.out.kind = .bytes then conversePackets t total ps (done + 1) (recordStep (done + 1) s1)
        else .ok (stopConversation (done + 1) total (recordStep (done + 1) s1))

/-- How many steps a command list asks for (spec 46_sequencer.md R214). -/
def conversationLength (l : CommandList) : Nat := l.packets.length + (if l.initiator then 0 else 1)

/-- A conversation starts: its family is put in `OP.a`, its `t` bit taken (spec 10_state.md R15, 46_sequencer.md R214;
assumption log 14). -/
def startConversation (t : Bool) (s : State) : State :=
  { s with op := { s.op with a := s.cmdList.family }, cfg := { s.cfg with trace := t }, results := [] }

/-- The counters of a conversation are cleared once its profile is selected (spec 46_sequencer.md R214). -/
def clearConversation (s : State) : State :=
  { s with conv := ⟨0, false⟩, seq := { s.seq with step := 0 } }

/-- A conversation with no step leaves no outcome: `OUT.kind` is 0 after it (spec 46_sequencer.md R215,
93_implementation_defined.md U12; 10_state.md R18; assumption log 22). -/
def noSteps (s : State) : State := { s with out := .clear }

/-- The steps of a conversation (spec 46_sequencer.md R214, R215). -/
def converseSteps (w t : Bool) (l : CommandList) (s : State) : Run :=
  if conversationLength l = 0 then .ok (noSteps s)
  else if l.initiator then conversePackets t (conversationLength l) l.packets 0 s
  else
    (rxStep w t s).andThen fun s1 =>
      if s1.out.kind = .bytes then conversePackets t (conversationLength l) l.packets 1 (recordStep 1 s1)
      else .ok (stopConversation 1 (conversationLength l) (recordStep 1 s1))

/-- `CONVERSE` (spec 46_sequencer.md R214). -/
def execConverse (w t : Bool) (s : State) : Host.Outcome State Fault Refusal :=
  ((selectProfile (startConversation t s)).andThen fun s1 =>
    converseSteps w t s.cmdList (clearConversation s1)).toOutcome

end Sys2Proof.Machine
end

