-- ==== Sys2Proof/Machine/Dispatch.lean ====
section
/-! DEFINITION. One arm per operation (spec 30_encoding.md R61). -/

namespace Sys2Proof.Machine

def exec (i : Instr) (s : State) : Host.Outcome State Fault Refusal :=
  match i with
  | .quant => Sys2Proof.Machine.execQuant s
  | .pddec => Sys2Proof.Machine.execPddec s
  | .dutydec t => Sys2Proof.Machine.execDutydec t s
  | .frame => Sys2Proof.Machine.execFrame s
  | .crop => Sys2Proof.Machine.execCrop s
  | .check => Sys2Proof.Machine.execCheck s
  | .autofix => Sys2Proof.Machine.execAutofix s
  | .modpd => Sys2Proof.Machine.execModpd s
  | .modduty => Sys2Proof.Machine.execModduty s
  | .rxstep w t => Sys2Proof.Machine.execRxstep w t s
  | .txrxstep t => Sys2Proof.Machine.execTxrxstep t s
  | .converse w t => Sys2Proof.Machine.execConverse w t s
  | .profsel => Sys2Proof.Machine.execProfsel s
  | .xreset => Sys2Proof.Machine.execXreset s

end Sys2Proof.Machine
end

