-- ==== Sys2Proof/Machine/Port.lean ====
section
/-! DEFINITION. The command port and the host's other actions between operations (spec 30_encoding.md R60, R63,
60_exceptions.md R236, R240, 70_reset_and_hazards.md R260, R264, R270). -/

namespace Sys2Proof.Machine

/-- A command word at the port: ignored while faulted, a fault when illegal, else the operation runs (spec
60_exceptions.md R236, R240; 30_encoding.md R63). -/
def runCommand (word : Byte) (s : State) : Host.Outcome State Fault Refusal :=
  if s.fault.v then .next s
  else
    match decode word with
    | .ok i => exec i s
    | .error _ => .next (takeFault .badCmd s)

/-- A host write that fits the register or buffer it is for; any other has no meaning (spec 10_state.md R17; assumption
log 17). -/
def hostWrite (fits : Bool) (s : State) : Host.Outcome State Fault Refusal :=
  if fits then .next s else .refused .hostWriteOutOfRange

/-- What a host action does (spec 70_reset_and_hazards.md R260, R264, R270; assumption log 1). -/
def runAction (a : HostAction) (s : State) : Host.Outcome State Fault Refusal :=
  match a with
  | .command word => runCommand word s
  | .setOpA v => hostWrite (fitsDur s.par v) { s with op := { s.op with a := v } }
  | .setOpB v => hostWrite (fitsDur s.par v) { s with op := { s.op with b := v } }
  | .setCap ds => hostWrite (decide (ds.length ≤ s.par.captureMax) && ds.all (fitsDur s.par)) { s with cap := ds }
  | .setSym ss => hostWrite (decide (ss.length ≤ s.par.symMax)) { s with sym := ss }
  | .setTxb bs => hostWrite (decide (bs.length ≤ s.par.txMax)) { s with txb := bs }
  | .setCommandList l => hostWrite (fitsDur s.par l.family) { s with cmdList := l }
  | .loadProfile f row =>
    hostWrite (decide (f < s.profiles.length) && profileFits s.par row) { s with profiles := s.profiles.set f row }
  | .hardReset => .next (hardReset s)

end Sys2Proof.Machine
end

