-- ==== Sys2Proof/Machine/Step.lean ====
section
/-! DEFINITION. One step of IRPE: the host's next action is taken, or the engine waits for one (spec
70_reset_and_hazards.md R260). -/

namespace Sys2Proof.Machine

/-- One step: an engine of parameters the rules are written for (assumption log 6) takes the host's next action, or
waits when there is none (assumption log 19). -/
def step (s : State) : Host.Outcome State Fault Refusal :=
  if engineWellFormed s.par then
    match s.pending with
    | [] => .next s
    | a :: rest => runAction a { s with pending := rest }
  else .refused .engineIllFormed

/-- The state with an opcode-table word as the host's next command word, which is where `step` takes its next operation
from (assumption log 1). -/
def State.withFetchWord (s : State) (nbits w : Nat) : State :=
  { s with pending := .command (BitVec.ofNat 8 (w % 2 ^ nbits)) :: s.pending }

end Sys2Proof.Machine
end

