-- ==== Sys2Proof/Safety.lean ====
section
/-! DEFINITION. The terms claims are stated in: the document's constants, independent descriptions of what the units must
compute (taken from the spec's tables and closed forms, not from the machine), and the invariants of a sound engine. -/

namespace Sys2Proof.Machine

/-- The engine has the document's coder constants (spec 00_scope.md R7, 44_redundancy.md R173). -/
def documentCoder (par : EngineParams) : Prop :=
  par.resultSeed = 0x79B4 ∧ par.maskSeed = 0x19D8 ∧ par.feedback = 0x10811

/-- The engine has the document's escape codes and pair length (spec 00_scope.md R7). -/
def documentFraming (par : EngineParams) : Prop :=
  par.esc = 0x7D ∧ par.escCode0 = 0xE0 ∧ par.escVal0 = 0xC0 ∧ par.escCode1 = 0xE1 ∧ par.escVal1 = 0xC1 ∧
  par.pairLen = 4

/-- The engine has the document's byte of nine ticks and the spec's pulse bit 0 (spec 00_scope.md R7). -/
def documentDuty (par : EngineParams) : Prop := par.byteTicks = 9 ∧ par.pulseBit = false

/-- A well-formed profile `P` of a kind is selected (spec 00_scope.md R9, 10_state.md R15, R16). -/
def hasProfile (kind : Kind) (s : State) (P : Profile) : Prop :=
  selectedProfile s = some P ∧ P.kind = kind ∧ profileWellFormed P = true

/-- No operation runs under the profile but one that faults first: not well formed, and not only by a tick length of 0
(spec 00_scope.md R9, 93_implementation_defined.md U2, U8). -/
def illFormed (P : Profile) : Prop :=
  profileWellFormed P = false ∧
  (P.kind = .duty → P.tickLen = 0 → profileWellFormed { P with tickLen := P.dutyPulseSend } = false)

/-- The mask used for data bit `i`, by the words of spec 44_redundancy.md R171: shifted, and folded when it reaches
0x10000. -/
def maskAt (par : EngineParams) : Nat → BitVec 17
  | 0 => par.maskSeed.setWidth 17
  | i + 1 =>
    if (0x10000 : BitVec 17) ≤ maskAt par i <<< 1 then (maskAt par i <<< 1) ^^^ par.feedback else maskAt par i <<< 1

/-- The closed form of the check value of any engine (spec 44_redundancy.md R172). -/
def closedCheckOf (par : EngineParams) (data : Half) : Half :=
  ((List.range 16).map fun i => if data.getLsbD i then (maskAt par i).setWidth 16 else 0).foldl (· ^^^ ·) par.resultSeed

/-- The masks `m_0` to `m_15` of spec 44_redundancy.md R171, as its table prints them. -/
def maskTable : List Half :=
  [0x19D8, 0x33B0, 0x6760, 0xCEC0, 0x9591, 0x2333, 0x4666, 0x8CCC,
   0x1189, 0x2312, 0x4624, 0x8C48, 0x1081, 0x2102, 0x4204, 0x8408]

/-- The closed form of the check value, from the printed masks (spec 44_redundancy.md R172). -/
def closedCheck (data : Half) : Half :=
  (maskTable.zipIdx.map fun m => if data.getLsbD m.2 then m.1 else 0).foldl (· ^^^ ·) 0x79B4

/-- `y` is `x` with one of its 1 bits cleared. -/
def oneBitCleared (x y : Half) : Prop := ∃ b, b < 16 ∧ x.getLsbD b = true ∧ y = x ^^^ BitVec.twoPow 16 b

/-- The pair `(d, g)` is the received pair, or it with one 1 bit of either half cleared (spec 44_redundancy.md R176). -/
def clearsTo (data given d g : Half) : Prop :=
  (d = data ∧ g = given) ∨ (oneBitCleared data d ∧ g = given) ∨ (d = data ∧ oneBitCleared given g)

/-- `d` lies in the bounds, both ends included (spec 41_pd_decoder.md R101, R102, R106). -/
def within (b : Bounds) (d : Nat) : Prop := b.min ≤ d ∧ d ≤ b.max

/-- A pulse and a gap that a receiver takes for a bit (spec 41_pd_decoder.md R102, R103). -/
def goodPair (P : Profile) (x : Nat × Nat) : Prop :=
  within P.bitPulse x.1 ∧ P.bitGapMin ≤ x.2 ∧ x.2 ≤ P.bitGapMax

/-- The Durations of some pairs in order. -/
def pairDurations (xs : List (Nat × Nat)) : List Nat := xs.flatMap fun x => [x.1, x.2]

/-- The bits some pairs stand for: 1 strictly above the threshold (spec 41_pd_decoder.md R103). -/
def readBits (P : Profile) (xs : List (Nat × Nat)) : List Bool := xs.map fun x => decide (P.bitGapThreshold < x.2)

/-- Up to eight bits as a byte, the first one lowest, zeros above (spec 41_pd_decoder.md R104). -/
def bitsByte (bits : List Bool) : Byte := (BitVec.ofBoolListLE bits).setWidth 8

/-- The whole bytes of a bit stream (spec 41_pd_decoder.md R105). -/
def wholeBytes (bits : List Bool) : List Byte :=
  (List.range (bits.length / 8)).map fun j => bitsByte ((bits.drop (8 * j)).take 8)

/-- The bits after the last whole byte, as the accumulator holds them (spec 41_pd_decoder.md R104, R107). -/
def partialByte (bits : List Bool) : Byte := bitsByte (bits.drop (8 * (bits.length / 8)))

/-- A bit as the two Durations of the pulse-distance line code (spec 30_encoding.md R68). -/
def bitDurations (P : Profile) (b : Bool) : List Nat :=
  [P.bitPulse.send, if b then P.bitGapSendLong else P.bitGapSendShort]

/-- The start pair and some bits of a pulse-distance transmission (spec 30_encoding.md R68). -/
def bitsSent (P : Profile) (bits : List Bool) : List Nat :=
  P.startPulse.send :: P.startGap.send :: bits.flatMap (bitDurations P)

/-- The duration of an emission entry. -/
def entryDuration : EmitEntry → Nat
  | .bare d    => d
  | .level _ d => d

/-- Adjacent entries of equal level merged, each run with its level (spec 45_modulator.md R195). -/
def levelRuns : List EmitEntry → List (Bool × Nat)
  | [] => []
  | .bare _ :: es => levelRuns es
  | .level h d :: es =>
    match levelRuns es with
    | [] => [(h, d)]
    | (k, e) :: rs => if h = k then (h, d + e) :: rs else (h, d) :: (k, e) :: rs

/-- The entries of a tick with a pulse: the pulse, then the rest of the tick at level 0 if there is a rest (spec
45_modulator.md R190). -/
def pulseTick (P : Profile) : List EmitEntry :=
  if P.dutyPulseSend < P.tickLen then [.level true P.dutyPulseSend, .level false (P.tickLen - P.dutyPulseSend)]
  else [.level true P.dutyPulseSend]

/-- The entries of a byte: a start tick, a tick with a pulse for each bit equal to `PULSE_BIT` and without one for each
other bit, bit 0 first, and the idle ticks (spec 45_modulator.md R190, R192). -/
def byteEntries (pulseBit : Bool) (P : Profile) (v : Byte) : List EmitEntry :=
  pulseTick P ++
    [0, 1, 2, 3, 4, 5, 6, 7].flatMap (fun k =>
      if v.getLsbD k = pulseBit then pulseTick P else [.level false P.tickLen]) ++
    List.replicate P.dutyStopTicks.toNat (.level false P.tickLen)

/-- What a channel shows of a duty emission, the idle time after the last pulse included (spec 45_modulator.md R195). -/
def channelView (es : List EmitEntry) : List Nat := (levelRuns es).map (·.2)

/-- `QUANT` measures a Duration `d` as `n` ticks with the off-grid error `e` (spec 40_quantizer.md R90, 42_duty_decoder.md
R121). -/
def measures (s : State) (d n e : Nat) : Prop :=
  exec .quant { s with op := ⟨d, 0⟩ } = .next { s with op := ⟨d, 0⟩, tq := ⟨n, e⟩ }

/-- A Duration of a pair is long (spec 42_duty_decoder.md R123). -/
def longPair (par : EngineParams) (p g : Nat) : Prop := par.longGap < p ∨ par.longGap < g

/-- A pair on the grid: not long, `n` ticks, at least one, and an error within the margin (spec 42_duty_decoder.md R123,
R125, R126). -/
def onGrid (s : State) (P : Profile) (pair : Nat × Nat) (n : Nat) : Prop :=
  ¬longPair s.par pair.1 pair.2 ∧ 1 ≤ n ∧ ∃ e, e ≤ P.tickMargin ∧ measures s (pair.1 + pair.2) n e

/-- The bits pairs of `ns` ticks shift into a byte: `n - 1` ones and one 0, the pulse bit (spec 42_duty_decoder.md R126). -/
def tickBits (ns : List Nat) : List Bool := ns.flatMap fun n => List.replicate (n - 1) true ++ [false]

/-- Those bits padded with ones to eight (spec 42_duty_decoder.md R124, R128). -/
def paddedBits (ns : List Nat) : List Bool := tickBits ns ++ List.replicate (8 - ns.sum) true

/-- The diagram marks of some bits (spec 42_duty_decoder.md R131). -/
def bitMarks (bits : List Bool) : List TraceChar := bits.map fun b => if b then .noPulse else .pulse

/-- The arrival trace of a real channel that is idle for `t` and then shows `ds`: `a_(i+1) = a_i + d_(i+1)` (spec
46_sequencer.md R203). -/
def arrivalsFrom : Nat → List Nat → List Arrival
  | _, [] => []
  | t, d :: ds => ⟨t + d, d⟩ :: arrivalsFrom (t + d) ds

/-- A receive takes the whole of `ds`, first seen after `t` idle: it starts in time (or the wait is unbounded), every
later Duration is within the continue timeout, and the whole with its closing silence within the length timeout (spec
46_sequencer.md R206 to R209). -/
def capturedWhole (par : EngineParams) (P : Profile) (unbounded : Bool) (t : Nat) (ds : List Nat) : Prop :=
  (unbounded = true ∨ t + ds.headD 0 < P.replyTimeout) ∧ (∀ d ∈ ds.tail, d ≤ P.packetContinueTimeout) ∧
  ds.tail.sum + P.packetContinueTimeout ≤ P.packetLengthTimeout ∧ ds ≠ [] ∧ ds.length < par.captureMax ∧
  ∀ d ∈ ds, d < 2 ^ par.durW

/-- The bytes a sender puts on the line for one payload byte (spec 30_encoding.md R72, R73). -/
def stuffByte (par : EngineParams) (v : Byte) : List Byte :=
  if v = par.escVal0 then [par.esc, par.escCode0] else if v = par.escVal1 then [par.esc, par.escCode1] else [v]

/-- How a conversation ends whose last, `n`-th step answers `o`: a fault in the step stands, an outcome is counted and
handed out, and nothing is left over (spec 46_sequencer.md R214, R216). -/
def afterLastStep (n : Nat) :
    Host.Outcome State Fault Refusal → Host.Outcome State Fault Refusal
  | .next v =>
    if v.fault.v = true then .next v
    else .next { v with conv := ⟨BitVec.ofNat 16 n, false⟩, results := v.results ++ [⟨v.out, v.rep, v.trace⟩] }
  | .fault f   => .fault f
  | .refused x => .refused x

/-- What a conversation with the command list `l` answers that has the packet `p`, one that fits `TXB`, after those of a
conversation that answers `o`: after a fault nothing more; after an outcome `Bytes` a transmit-first step that sends `p`,
`SEQ.step` being the number of steps before it; after any other outcome that packet is left over (spec 46_sequencer.md
R214 to R216). -/
def withOneMore (t : Bool) (l : CommandList) (p : List Byte) :
    Host.Outcome State Fault Refusal → Host.Outcome State Fault Refusal
  | .next u =>
    if u.fault.v = true then .next { u with cmdList := l }
    else if u.out.kind = .bytes then
      afterLastStep (u.conv.done.toNat + 1)
        (exec (.txrxstep t) { u with cmdList := l, seq := ⟨u.seq.st, u.conv.done⟩, txb := p })
    else .next { u with cmdList := l, conv := ⟨u.conv.done, true⟩ }
  | .fault f   => .fault f
  | .refused x => .refused x

/-- A payload byte the frame can carry: not the escape byte, and equal to the terminator only if it is escaped (spec
30_encoding.md R73, 43_framer.md R145). -/
def carriable (par : EngineParams) (P : Profile) (v : Byte) : Prop :=
  v ≠ par.esc ∧ (v = P.term → v = par.escVal0 ∨ v = par.escVal1)

/-- The report of a payload of good bytes, by the closed form of the check value (spec 43_framer.md R152). -/
def reportOf (bs : List Byte) (r : Report) : Prop :=
  match bs with
  | [p0, p1, p2, p3] =>
    (closedCheck (p0 ++ p1) = p2 ++ p3 ∧ r = ⟨.ok, p0 ++ p1, bs.map .valid⟩) ∨
    (closedCheck (p0 ++ p1) ≠ p2 ++ p3 ∧
      ∃ d g, clearsTo (p0 ++ p1) (p2 ++ p3) d g ∧ closedCheck d = g ∧ r = ⟨.autofix, d, bs.map .valid⟩) ∨
    ((∀ d g, clearsTo (p0 ++ p1) (p2 ++ p3) d g → closedCheck d ≠ g) ∧ r = ⟨.chkfail, 0, bs.map .valid⟩)
  | _ => r = ⟨.error, 0, bs.map .valid⟩

/-- A symbol the framer passes over before a template: `LongGap` or a trailer byte (spec 43_framer.md R141). -/
def passedOver (P : Profile) (y : Symbol) : Prop := y = .longGap ∨ ∃ v ∈ P.trailer, y = .byte v

/-- A symbol that ends a packet: `LongGap` or the terminator (spec 43_framer.md R146, R150). -/
def endsPacket (P : Profile) (y : Symbol) : Prop := y = .longGap ∨ y = .byte P.term

/-- What stands for one payload entry on the line (spec 43_framer.md R145, R148, R149). -/
inductive PayPiece where
  | plain (v : Byte)
  | escaped0
  | escaped1
  | damaged
  | badEscape (x : Symbol)
deriving DecidableEq, Repr

/-- The symbols of a piece. -/
def pieceSymbols (par : EngineParams) : PayPiece → List Symbol
  | .plain v     => [.byte v]
  | .escaped0    => [.byte par.esc, .byte par.escCode0]
  | .escaped1    => [.byte par.esc, .byte par.escCode1]
  | .damaged     => [.byteError]
  | .badEscape x => [.byte par.esc, x]

/-- The payload entry of a piece. -/
def pieceEntry (par : EngineParams) : PayPiece → PayEntry
  | .plain v     => .valid v
  | .escaped0    => .valid par.escVal0
  | .escaped1    => .valid par.escVal1
  | .damaged     => .invalid
  | .badEscape _ => .invalid

/-- A piece that is one: a plain byte is neither `ESC` nor the terminator; what follows a bad escape is no recognized
code, does not end the packet, and is no `END` (spec 43_framer.md R145, R146, R148). -/
def pieceLawful (par : EngineParams) (P : Profile) : PayPiece → Prop
  | .plain v     => v ≠ par.esc ∧ v ≠ P.term
  | .escaped0    => True
  | .escaped1    => True
  | .damaged     => True
  | .badEscape x => x ≠ .byte par.escCode0 ∧ x ≠ .byte par.escCode1 ∧ x ≠ .longGap ∧ x ≠ .endMark

/-- How a packet ends: by the terminator, a `LongGap`, the end of the data, or either of the last two with an escape
pending (spec 43_framer.md R146, R154). -/
inductive PacketEnd where
  | terminator
  | longGap
  | dataEnd
  | escapeLongGap
  | escapeDataEnd
deriving DecidableEq, Repr

/-- The symbols of a packet's end. -/
def endSymbols (par : EngineParams) (P : Profile) : PacketEnd → List Symbol
  | .terminator    => [.byte P.term]
  | .longGap       => [.longGap]
  | .dataEnd       => []
  | .escapeLongGap => [.byte par.esc, .longGap]
  | .escapeDataEnd => [.byte par.esc]

/-- The payload entries a packet's end adds: `Invalid` for a pending escape. -/
def endEntries : PacketEnd → List PayEntry
  | .terminator    => []
  | .longGap       => []
  | .dataEnd       => []
  | .escapeLongGap => [.invalid]
  | .escapeDataEnd => [.invalid]

/-- Symbols that ask for one more payload entry, `after` what follows them: those of a piece, found at its last symbol, or
an escape cut by a `LongGap`, found there, or by the end of the data, found there, `back` symbols before the end of them
(spec 43_framer.md R145 to R149, R154, R155). -/
def oneEntryMore (par : EngineParams) (P : Profile) (extra after : List Symbol) (back : Nat) : Prop :=
  (∃ q, pieceLawful par P q ∧ extra = pieceSymbols par q ∧ back = 1) ∨
  (extra = endSymbols par P .escapeLongGap ∧ back = 1) ∨
  (extra = endSymbols par P .escapeDataEnd ∧ after = [] ∧ back = 0)

/-- The report of any payload: a bad entry makes it `ERROR` (spec 43_framer.md R152). -/
def reportOfEntries (es : List PayEntry) (r : Report) : Prop :=
  (∃ bs : List Byte, es = bs.map .valid ∧ reportOf bs r) ∨ (.invalid ∈ es ∧ r = ⟨.error, 0, es⟩)

/-- A packet whose start sequence fails: what is passed over before it, how many template bytes it matches, and the
symbols from the mismatch on. -/
structure FailedPacket where
  lead    : List Symbol
  matched : Nat
  tail    : List Symbol
deriving DecidableEq, Repr

/-- The symbols of a failed packet. -/
def failedSymbols (P : Profile) (f : FailedPacket) : List Symbol :=
  f.lead ++ (P.startSeq.take f.matched).map .byte ++ f.tail

/-- `x` is a mismatch after `k` template bytes (spec 43_framer.md R141, R142). -/
def mismatch (P : Profile) (k : Nat) (x : Symbol) : Prop :=
  x ≠ .endMark ∧ (∀ v, P.startSeq[k]? = some v → x ≠ .byte v) ∧ (k = 0 → ¬passedOver P x)

/-- A failed packet with its boundary: the mismatch is one itself, or one follows what is skipped (spec 43_framer.md
R150, R151). -/
def failedWhole (P : Profile) (f : FailedPacket) : Prop :=
  (∀ y ∈ f.lead, passedOver P y) ∧ f.matched < P.startSeq.length ∧
  ((∃ x, f.tail = [x] ∧ mismatch P f.matched x ∧ endsPacket P x) ∨
    ∃ x skipped b, f.tail = x :: skipped ++ [b] ∧ mismatch P f.matched x ∧
      (∀ y ∈ x :: skipped, ¬endsPacket P y ∧ y ≠ .endMark) ∧ endsPacket P b)

/-- A failed packet the end of the data cuts, in its start sequence or after a mismatch (spec 43_framer.md R150,
R154). -/
def failedCut (P : Profile) (f : FailedPacket) : Prop :=
  (∀ y ∈ f.lead, passedOver P y) ∧ f.matched < P.startSeq.length ∧
  ((f.tail = [] ∧ 1 ≤ f.matched) ∨
    ∃ x skipped, f.tail = x :: skipped ∧ mismatch P f.matched x ∧
      ∀ y ∈ x :: skipped, ¬endsPacket P y ∧ y ≠ .endMark)

/-- What may stand before a packet: nothing, or any symbols closed by a `LongGap`, few enough never to fill `PAY` (spec
43_framer.md R146, R150, R155). -/
def closedLead (par : EngineParams) (lead : List Symbol) : Prop :=
  (lead = [] ∨ lead.getLast? = some .longGap) ∧ .endMark ∉ lead ∧ lead.length ≤ par.payloadMax

/-- The report is a noise marker. -/
def isNoise (r : Report) : Bool := r.kind == .noise1 || r.kind == .noise2

/-- The `END` report (spec 30_encoding.md R75). -/
def endReport : Report := ⟨.finish, 0, []⟩

/-- The report of `run` pending aborts, 2 standing for more (spec 43_framer.md R153). -/
def noiseMarker (run : BitVec 2) : List Report :=
  if run = 0 then [] else if run = 1 then [⟨.noise1, 0, []⟩] else [⟨.noise2, 0, []⟩]

/-- The framer stopped at a symbol with registers `frm` and with `pay` and `rep`, and `u` is the end of `FRAME` on the
symbols before it: what the end of the data adds is missing, namely noise still pending, a start sequence cut as one more
abort, an `Invalid` for a pending escape and the report of an open packet, and `END` (spec 43_framer.md R152 to R154). -/
def cutShort (frm : FrmRegs) (pay : List PayEntry) (rep : List Report) (u : State) : Prop :=
  match frm.st with
  | .seeking | .aborted => u.pay = pay ∧ u.rep = rep ++ noiseMarker frm.abortRun ++ [endReport]
  | .inStartSequence    =>
    u.pay = pay ∧ u.rep = rep ++ noiseMarker (if frm.abortRun = 0 then 1 else 2) ++ [endReport]
  | .inPayload          =>
    u.pay = pay ++ (if frm.esc then [.invalid] else []) ∧
    ∃ r, r.raw = u.pay ∧ u.rep = rep ++ noiseMarker frm.abortRun ++ [r, endReport]

/-- Every buffer within its capacity (spec 10_state.md R17, R22). -/
def withinCapacity (s : State) : Prop :=
  s.cap.length ≤ s.par.captureMax ∧ s.sym.length ≤ s.par.symMax ∧ s.pay.length ≤ s.par.payloadMax ∧
  s.emit.length ≤ s.par.emitMax ∧ s.log.length ≤ s.par.logMax ∧ s.txb.length ≤ s.par.txMax

/-- The narrow registers hold only what their tables allow: `DT.tib` 0 to 8, `FRM.abort_run` 0 to 2, `RC.mask` with bit
16 clear between operations, `FAULT.code` 0 without a fault and 1 to 8 with one (spec 10_state.md R12, R14,
60_exceptions.md R241). -/
def registersLawful (s : State) : Prop :=
  s.dt.tib.toNat ≤ 8 ∧ s.frm.abortRun.toNat ≤ 2 ∧ s.rc.mask.getLsbD 16 = false ∧
  (s.fault.v = false → s.fault.code = 0) ∧ (s.fault.v = true → 1 ≤ s.fault.code.toNat ∧ s.fault.code.toNat ≤ 8)

/-- `OUT` holds no outcome or one outcome of spec 10_state.md R18: reason, position and value are 0 without a bad packet
or timeout, a bad packet has a reason 1 to 10, a timeout the reason 1 (60_exceptions.md R231, R232). -/
def outcomeLawful (s : State) : Prop :=
  match s.out.kind with
  | .noOutcome => s.out = ⟨.noOutcome, 0, 0, 0⟩
  | .bytes     => s.out = ⟨.bytes, 0, 0, 0⟩
  | .badPacket => 1 ≤ s.out.reason.toNat ∧ s.out.reason.toNat ≤ 10
  | .timedOut  => s.out = ⟨.timedOut, 1, 0, 0⟩

/-- Between operations the peripherals are quiet (spec 46_sequencer.md R204, 20_memory.md R42), and an engine that has
not faulted shows `SEQ.st` `Idle` or terminal (R202), no byte in progress (42_duty_decoder.md R130) and no packet in
progress (43_framer.md R156). -/
def atRest (s : State) : Prop :=
  s.capDev.paused = true ∧ s.port.idle = true ∧ s.port.line = false ∧
  (s.fault.v = false →
    s.seq.st ≠ .waitingForStart ∧ s.seq.st ≠ .receiving ∧ s.dt.acc = 0 ∧ s.dt.tib = 0 ∧ s.dt.opened = false ∧
    s.frm.st = .seeking ∧ s.frm.idx = 0 ∧ s.frm.esc = false ∧ s.frm.bad = false ∧ s.frm.abortRun = 0)

/-- Every number in a profile row and every `DUR_W`-bit register fits `DUR_W` bits, so that the model's naturals
never need more than the registers have (spec 00_scope.md R7, R8; 10_state.md R12 to R18, R22). -/
def widthsLawful (s : State) : Prop :=
  (∀ P ∈ s.profiles, profileFits s.par P = true) ∧ s.cmdList.family < 2 ^ s.par.durW ∧
  (∀ v ∈ [s.pd.nbits, s.pd.cur, s.dt.cur, s.tq.ticks, s.tq.err, s.frm.cur, s.frm.mmPos, s.out.position, s.out.value,
    s.op.a, s.op.b, s.res.val], v < 2 ^ s.par.durW) ∧
  (∀ d ∈ s.cap, d < 2 ^ s.par.durW) ∧ (∀ d ∈ s.log, d < 2 ^ s.par.durW) ∧
  (∀ d ∈ s.capDev.queue, d < 2 ^ s.par.durW) ∧ ∀ e ∈ s.emit, entryDuration e < 2 ^ s.par.durW

/-- What a step's result consists of (spec 46_sequencer.md R218), the rest left at its reset value: two states show the
same result when their views are equal. -/
def stepView (s : State) : State :=
  { State.initial s.par s.profiles with
    pd := s.pd, dt := s.dt, frm := s.frm, capFull := s.capFull, fault := s.fault, out := s.out
    cap := s.cap, sym := s.sym, pay := s.pay, rep := s.rep, emit := s.emit, log := s.log, trace := s.trace
    seq := ⟨s.seq.st, 0⟩, cfg := s.cfg }

/-- A state without its diagram trace (spec 60_exceptions.md R246). -/
def withoutTrace (s : State) : State :=
  { s with
    cfg := { s.cfg with trace := false }
    trace := []
    results := s.results.map fun r => { r with trace := [] } }

/-- Two outcomes agree up to a view of their next states. -/
def agreeBy (view : State → State) : Host.Outcome State Fault Refusal → Host.Outcome State Fault Refusal → Prop
  | .next a, .next b => view a = view b
  | .fault a, .fault b => a = b
  | .refused a, .refused b => a = b
  | _, _ => False

end Sys2Proof.Machine
end

