-- ==== Sys2Proof/Certificates/Slice0/Obligations.lean ====
section
/-! DEFINITION. The statements for the provers. A statement marked "model's choice" names the log entry it rests on. -/

open Sys2Proof Sys2Proof.Machine

/- ### Encoding and the command port -/

/-- Words written out from spec 30_encoding.md R60, R61 decode to the operations they stand for. -/
def Obligations.WrittenWordsDecode : Prop :=
  decode 0b00000001 = .ok .quant ∧ decode 0b00000010 = .ok .pddec ∧ decode 0b00100011 = .ok (.dutydec true) ∧
  decode 0b00000100 = .ok .frame ∧ decode 0b00000111 = .ok .autofix ∧ decode 0b00001001 = .ok .modduty ∧
  decode 0b00101010 = .ok (.rxstep false true) ∧ decode 0b00011010 = .ok (.rxstep true false) ∧
  decode 0b00101011 = .ok (.txrxstep true) ∧ decode 0b00011100 = .ok (.converse true false) ∧
  decode 0b00001110 = .ok .xreset

/-- Decoding and encoding are inverse to each other on every word and every operation (spec 30_encoding.md R60, R61). -/
def Obligations.DecodeInvertsEncode : Prop :=
  ∀ (c : Byte) (i : Instr), decode c = .ok i ↔ encode i = c

/-- Which command words are illegal (spec 30_encoding.md section 1), and what a word at the port does: ignored while
faulted, `FAULT_BAD_CMD` and no other change when illegal, else its operation. That the port is a list of host actions,
`rest` what comes after, is the model's choice (assumption log 1, 6). -/
def Obligations.IllegalWordFaults : Prop :=
  ∀ (s : State) (c : Byte) (rest : List HostAction), engineWellFormed s.par = true → s.pending = .command c :: rest →
    (s.fault.v = true → step s = .next { s with pending := rest }) ∧
    (s.fault.v = false →
      ((c.extractLsb' 0 4 = 0x0 ∨ c.extractLsb' 0 4 = 0xF ∨ c.extractLsb' 6 2 ≠ 0 ∨
          (c.getLsbD 4 = true ∧ c.extractLsb' 0 4 ∉ [(0xA : BitVec 4), 0xC]) ∨
          (c.getLsbD 5 = true ∧ c.extractLsb' 0 4 ∉ [(0x3 : BitVec 4), 0xA, 0xB, 0xC])) →
        step s = .next { s with pending := rest, fault := ⟨true, 1⟩ }) ∧
      (¬(c.extractLsb' 0 4 = 0x0 ∨ c.extractLsb' 0 4 = 0xF ∨ c.extractLsb' 6 2 ≠ 0 ∨
          (c.getLsbD 4 = true ∧ c.extractLsb' 0 4 ∉ [(0xA : BitVec 4), 0xC]) ∨
          (c.getLsbD 5 = true ∧ c.extractLsb' 0 4 ∉ [(0x3 : BitVec 4), 0xA, 0xB, 0xC])) →
        ∃ i, i.wellFormed = true ∧ encode i = c ∧ step s = exec i { s with pending := rest }))

/-- When the next command word decodes to a well-formed operation and the engine has not faulted, the step is that
operation; with no host action pending the engine waits (spec 70_reset_and_hazards.md section 2; the list of pending
host actions is the model's choice, assumption log 1 and 19). -/
def Obligations.StepRunsTheCommandedOperation : Prop :=
  ∀ (s : State), engineWellFormed s.par = true →
    (∀ (c : Byte) (rest : List HostAction) (i : Instr), s.pending = .command c :: rest → s.fault.v = false →
      decode c = .ok i → i.wellFormed = true → step s = exec i { s with pending := rest }) ∧
    (s.pending = [] → step s = .next s)

/-- A host write that fits lands in its operand register, buffer or profile row and changes nothing else, faulted or not;
one that does not fit is refused (spec 10_state.md section 10, 70_reset_and_hazards.md section 2; the list of host actions
and the refusal are the model's choice, assumption log 1, 17). -/
def Obligations.HostWritesLandOrAreRefused : Prop :=
  ∀ (s u : State) (rest : List HostAction), engineWellFormed s.par = true → u = { s with pending := rest } →
    (∀ v, s.pending = .setOpA v :: rest → step s =
      if v < 2 ^ s.par.durW then .next { u with op := ⟨v, s.op.b⟩ } else .refused .hostWriteOutOfRange) ∧
    (∀ v, s.pending = .setOpB v :: rest → step s =
      if v < 2 ^ s.par.durW then .next { u with op := ⟨s.op.a, v⟩ } else .refused .hostWriteOutOfRange) ∧
    (∀ ds, s.pending = .setCap ds :: rest → step s =
      if ds.length ≤ s.par.captureMax ∧ ∀ d ∈ ds, d < 2 ^ s.par.durW then .next { u with cap := ds }
      else .refused .hostWriteOutOfRange) ∧
    (∀ ss, s.pending = .setSym ss :: rest → step s =
      if ss.length ≤ s.par.symMax then .next { u with sym := ss } else .refused .hostWriteOutOfRange) ∧
    (∀ bs, s.pending = .setTxb bs :: rest → step s =
      if bs.length ≤ s.par.txMax then .next { u with txb := bs } else .refused .hostWriteOutOfRange) ∧
    (∀ l, s.pending = .setCommandList l :: rest → step s =
      if l.family < 2 ^ s.par.durW then .next { u with cmdList := l } else .refused .hostWriteOutOfRange) ∧
    (∀ f row, s.pending = .loadProfile f row :: rest → step s =
      if f < s.profiles.length ∧ profileFits s.par row = true then .next { u with profiles := s.profiles.set f row }
      else .refused .hostWriteOutOfRange)

/- ### Reset and the internal fault -/

/-- What hardware reset leaves in every register and buffer, from any state (the table of spec 70_reset_and_hazards.md
R260; that reset comes as a host action of a list is the model's choice, assumption log 1). -/
def Obligations.HardResetLeavesTheTable : Prop :=
  ∀ (s : State) (rest : List HostAction), engineWellFormed s.par = true → s.pending = .hardReset :: rest →
    ∃ r, step s = .next r ∧
      r.pd = ⟨0, 0, 0, false⟩ ∧ r.dt = ⟨0, 0, 0, false⟩ ∧
      r.rc = ⟨s.par.resultSeed, s.par.maskSeed.setWidth 17, 0⟩ ∧ r.tq = ⟨0, 0⟩ ∧
      r.frm = ⟨.seeking, 0, 0, false, false, 0, false, 0⟩ ∧ r.seq = ⟨.idle, 0⟩ ∧ r.capFull = false ∧
      r.fault = ⟨false, 0⟩ ∧ r.cfg = ⟨0, false, false⟩ ∧ r.out = ⟨.noOutcome, 0, 0, 0⟩ ∧ r.conv = ⟨0, false⟩ ∧
      r.op = ⟨0, 0⟩ ∧ r.res = ⟨false, 0⟩ ∧ r.cap = [] ∧ r.sym = [] ∧ r.pay = [] ∧ r.rep = [] ∧ r.emit = [] ∧
      r.log = [] ∧ r.txb = [] ∧ r.trace = [] ∧ r.capDev = ⟨true, []⟩ ∧ r.port.idle = true ∧ r.port.line = false ∧
      r.profiles = s.profiles ∧ r.par = s.par

/-- A faulted engine keeps its fault through every host action but hardware reset, and a command word, `XRESET`
included, changes nothing at all but that it is taken from the port (spec 60_exceptions.md section 5; the list of host
actions is the model's choice, assumption log 1). -/
def Obligations.FaultStaysUntilHardReset : Prop :=
  ∀ (s r : State) (a : HostAction) (rest : List HostAction), s.fault.v = true → s.pending = a :: rest →
    step s = .next r →
      (a ≠ .hardReset → r.fault = s.fault) ∧ (∀ c, a = .command c → r = { s with pending := rest }) ∧
      (a = .hardReset → r.fault = ⟨false, 0⟩)

/-- Spec 10_state.md R16, whole: reading a profile before one is selected, and a unit run under the other kind. -/
def Obligations.UnitsFaultWithoutTheirProfile : Prop :=
  ∀ (s : State),
    (s.cfg.valid = false →
      (∀ t, ∀ i ∈ [Instr.quant, .pddec, .dutydec t, .frame, .crop, .modpd, .modduty],
        exec i s = .next { s with fault := ⟨true, 2⟩ }) ∧
      (∀ w t, ∀ i ∈ [Instr.rxstep w t, .txrxstep t],
        exec i s = .next { stepReset s with cfg := { s.cfg with trace := t }, fault := ⟨true, 2⟩ })) ∧
    (∀ P, selectedProfile s = some P →
      (P.kind = .duty → ∀ i ∈ [Instr.pddec, .crop, .modpd], exec i s = .next { s with fault := ⟨true, 2⟩ }) ∧
      (P.kind = .pd → ∀ t, ∀ i ∈ [Instr.dutydec t, .frame, .modduty],
        exec i s = .next { s with fault := ⟨true, 2⟩ }))

/-- A tick length of 0 faults `QUANT`, and `DUTYDEC` before any Duration is read, alone or inside a step that captured
something, where `TXRXSTEP` has sent its packet and `SEQ.st` stays `Receiving` (spec 40_quantizer.md section 2,
93_implementation_defined.md section 1: U8; the lists of arrival traces and sent sequences, the queue and `SEQ.st` after
it are the model's choice, assumption log 2, 13, 15, 20). -/
def Obligations.ZeroTickFaults : Prop :=
  ∀ (s : State) (P : Profile), selectedProfile s = some P → P.tickLen = 0 →
    exec .quant s = .next { s with fault := ⟨true, 3⟩ } ∧
    (P.kind = .duty → ∀ t, exec (.dutydec t) s = .next
      { s with
        sym := [], dt := ⟨0, 0, 0, false⟩, cfg := { s.cfg with trace := t }, trace := [], fault := ⟨true, 3⟩ }) ∧
    (P.kind = .duty → profileWellFormed { P with tickLen := P.dutyPulseSend } = true →
      traceAdmitted s.par (nextTrace s) = true → ∀ (t : Bool) (c : Capture) (full : Bool),
      (∀ w : Bool, capture s.par P (if w then none else some P.replyTimeout) (nextTrace s) ⟨[], [], ⟨false, []⟩⟩ =
          (c, .captured full) →
        exec (.rxstep w t) s = .next
          { stepReset s with
            cfg := { s.cfg with trace := t }
            arrivals := s.arrivals.tail
            capDev := ⟨true, c.dev.queue⟩
            cap := c.cap
            log := c.log
            capFull := full
            seq := ⟨.receiving, s.seq.step⟩
            fault := ⟨true, 3⟩ }) ∧
      (s.txb.length * (9 + P.dutyStopTicks.toNat) ≤ s.par.emitMax →
        capture s.par P (some P.replyTimeout) (nextTrace s) ⟨[], [], ⟨false, []⟩⟩ = (c, .captured full) →
        exec (.txrxstep t) s = .next
          { stepReset s with
            cfg := { s.cfg with trace := t }
            arrivals := s.arrivals.tail
            emit := s.txb.flatMap (byteEntries s.par.pulseBit P)
            port := ⟨true, false, s.port.sent ++ [s.txb.flatMap (byteEntries s.par.pulseBit P)]⟩
            capDev := ⟨true, c.dev.queue⟩
            cap := c.cap
            log := c.log
            capFull := full
            seq := ⟨.receiving, s.seq.step⟩
            fault := ⟨true, 3⟩ }))

/-- A profile that is not well formed is refused, not faulted, by every operation that runs under it; where a tick length
of 0 faults first, that comes first, and a duty row is not ill-formed by its tick length of 0 alone (spec 00_scope.md
section 4, 93_implementation_defined.md section 1: U2, U8; the order: assumption log 10; the command list is the model's
choice, assumption log 3). -/
def Obligations.IllFormedProfileIsRefused : Prop :=
  ∀ (s : State) (P : Profile), selectedProfile s = some P → illFormed P →
    (P.tickLen ≠ 0 → exec .quant s = .refused .profileIllFormed) ∧
    (P.kind = .pd → ∀ i ∈ [Instr.pddec, .crop, .modpd], exec i s = .refused .profileIllFormed) ∧
    (P.kind = .duty →
      (P.tickLen ≠ 0 → ∀ t, exec (.dutydec t) s = .refused .profileIllFormed) ∧
      ∀ i ∈ [Instr.frame, .modduty], exec i s = .refused .profileIllFormed) ∧
    ∀ w t, exec (.rxstep w t) s = .refused .profileIllFormed ∧ exec (.txrxstep t) s = .refused .profileIllFormed ∧
      ∀ f ps, s.cmdList = ⟨f, false, ps⟩ → s.profiles[f]? = some P →
        exec (.converse w t) s = .refused .profileIllFormed

/- ### Quantizer -/

/-- `QUANT` writes the nearest tick count and its off-grid error, ties by `QUANT_TIE`, and nothing else (spec
40_quantizer.md section 2). -/
def Obligations.QuantWritesNearestTickCount : Prop :=
  ∀ (s : State) (P : Profile), selectedProfile s = some P → profileWellFormed P = true → 1 ≤ P.tickLen →
    ∃ n e, exec .quant s = .next { s with tq := ⟨n, e⟩ } ∧
      (s.op.a = n * P.tickLen + e ∨ s.op.a + e = n * P.tickLen) ∧ 2 * e ≤ P.tickLen ∧
      (2 * e = P.tickLen → s.par.quantTie = .halfUp → s.op.a + e = n * P.tickLen) ∧
      (2 * e = P.tickLen → s.par.quantTie = .halfEven → n % 2 = 0)

/-- Spec 40_quantizer.md R94, whole: the widths and ranges of the quantizer. -/
def Obligations.QuantizerWidthsAndRanges : Prop :=
  ∀ (tie : TieRule) (d T : Nat), 1 ≤ T →
    (quantize tie d T).1 ≤ d ∧ (∀ W, d < 2 ^ W → (quantize tie d T).1 < 2 ^ W) ∧
    (T = 1 → quantize tie d T = (d, 0)) ∧
    (quantize tie d T).2 ≤ T / 2 ∧ (∀ W, T < 2 ^ W → (quantize tie d T).2 < 2 ^ W) ∧
    (2 * (quantize tie d T).2 = T ↔ 2 * (d % T) = T) ∧
    ((quantize tie d T).1 = 0 ↔ 2 * d < T ∨ (2 * d = T ∧ tie = .halfEven)) ∧
    quantize tie 0 T = (0, 0) ∧ (∀ k, quantize tie (k * T) T = (k, 0)) ∧
    (∀ W p g, p < 2 ^ W → g < 2 ^ W → p + g < 2 ^ (W + 1)) ∧
    (quantize tie d T).1 * T ≤ d + T / 2 ∧
    (∀ W, d < 2 ^ (W + 1) → T < 2 ^ W → (quantize tie d T).1 * T < 2 ^ (W + 2))

/- ### Redundancy coder -/

/-- Spec 44_redundancy.md R171, whole: `CHECK` uses for data bit `i` the mask `m_i` of the sequence of folded shifts, for
every engine; with bit 16 of `FEEDBACK` set the fold returns to 16 bits and is made exactly when bit 15 was set; with the
document's constants the masks are the printed ones, `m_16` is 1 and no data bit uses it. -/
def Obligations.MaskSequenceIsTheTable : Prop :=
  (∀ (par : EngineParams) (data : Half),
    checkValue par data = closedCheckOf par data ∧ (checkRegs par data).mask = maskAt par 16) ∧
  (∀ par : EngineParams, par.feedback.getLsbD 16 = true → ∀ i,
    (maskAt par i).getLsbD 16 = false ∧
    ((0x10000 : BitVec 17) ≤ maskAt par i <<< 1 ↔ (maskAt par i).getLsbD 15 = true)) ∧
  (∀ par : EngineParams, documentCoder par →
    (∀ i, i < 16 → (maskAt par i).setWidth 16 = maskTable.getD i 0) ∧ maskAt par 16 = 0x00001) ∧
  (∀ i, i < 16 → ((maskNext 0x10811)^[i] 0x19D8).setWidth 16 = maskTable.getD i 0 ∧
    ((maskNext 0x10811)^[i] 0x19D8).getLsbD 16 = false) ∧
  (maskNext 0x10811)^[16] 0x19D8 = 0x00001 ∧
  (∀ (fb : BitVec 17) (m : Half), fb.getLsbD 16 = true →
    (maskNext fb (m.setWidth 17)).getLsbD 16 = false ∧
    ((0x10000 : BitVec 17) ≤ m.setWidth 17 <<< 1 ↔ m.getLsbD 15 = true)) ∧
  (∀ (par : EngineParams) (data : Half), documentCoder par → checkValue par data =
    (maskTable.zipIdx.map fun m => if data.getLsbD m.2 then m.1 else 0).foldl (· ^^^ ·) 0x79B4)

/-- Spec 44_redundancy.md R172, whole: the closed form, affinity and the value at 0 for every engine, and with the
document's constants linearly independent masks, a bijection, distinct masks none of which has exactly one bit set. -/
def Obligations.CheckIsAffineBijection : Prop :=
  (∀ (par : EngineParams) (data : Half), checkValue par data = closedCheckOf par data) ∧
  (∀ (par : EngineParams), documentCoder par →
    (∀ data, checkValue par data = closedCheck data) ∧ checkValue par 0 = 0x79B4 ∧
    Function.Bijective (checkValue par)) ∧
  (∀ (par : EngineParams) (a b : Half),
    checkValue par (a ^^^ b) = checkValue par a ^^^ checkValue par b ^^^ par.resultSeed) ∧
  (∀ par : EngineParams, checkValue par 0 = par.resultSeed) ∧
  (∀ data : Half, data ≠ 0 → closedCheck data ^^^ 0x79B4 ≠ 0) ∧
  maskTable.Nodup ∧ (∀ m ∈ maskTable, ∀ b, b < 16 → m ≠ BitVec.twoPow 16 b)

/-- `CHECK` needs no profile, writes the check value of `OP.a[15:0]` and leaves the coder's registers as its sixteen
rounds leave them; nothing else changes (spec 44_redundancy.md section 2, with the document's constants). -/
def Obligations.CheckWritesTheCheckValue : Prop :=
  ∀ (s : State), documentCoder s.par →
    exec .check s = .next
      { s with
        rc := ⟨closedCheck (BitVec.ofNat 16 s.op.a), 0x00001, 0⟩
        res := ⟨true, (closedCheck (BitVec.ofNat 16 s.op.a)).toNat⟩ }

/-- `AUTOFIX` returns the data half of the valid pair that the received pair is, or becomes when one of its 1 bits is
cleared, and none when there is no such pair; only `RES`, the coder's registers (open after it, assumption log 7) and
the model's counter change (spec 44_redundancy.md section 3). -/
def Obligations.AutofixRepairsOneClearedBit : Prop :=
  ∀ (s : State), documentCoder s.par →
    ∃ res rc k, exec .autofix s = .next { s with res := res, rc := rc, freeCtr := k } ∧
      ((∃ d, res = ⟨true, d.toNat⟩ ∧
          ∃ g, clearsTo (BitVec.ofNat 16 s.op.a) (BitVec.ofNat 16 s.op.b) d g ∧ closedCheck d = g) ∨
        (res = ⟨false, 0⟩ ∧
          ∀ d g, clearsTo (BitVec.ofNat 16 s.op.a) (BitVec.ofNat 16 s.op.b) d g → closedCheck d ≠ g))

/-- Spec 44_redundancy.md R176: what `autofix` repairs (a, b), what it does not (c), when it returns a value and that
the value is unique (d), and that a pair with several errors can be repaired to wrong data. -/
def Obligations.AutofixRepairLaws : Prop :=
  ∀ (par : EngineParams), documentCoder par →
    (∀ d0, autofixValue par d0 (checkValue par d0) = some d0) ∧
    (∀ d0 b, b < 16 → d0.getLsbD b = false →
      autofixValue par (d0 ||| BitVec.twoPow 16 b) (checkValue par d0) = some d0) ∧
    (∀ d0 b, b < 16 → (checkValue par d0).getLsbD b = false →
      autofixValue par d0 (checkValue par d0 ||| BitVec.twoPow 16 b) = some d0) ∧
    (∀ d0 d1, oneBitCleared d0 d1 → autofixValue par d1 (checkValue par d0) = none) ∧
    (∀ d0 c1, oneBitCleared (checkValue par d0) c1 → autofixValue par d0 c1 = none) ∧
    (∀ data given d, autofixValue par data given = some d ↔
      ∃ g, clearsTo data given d g ∧ checkValue par d = g) ∧
    (∀ data given d d' g g', clearsTo data given d g → clearsTo data given d' g' → checkValue par d = g →
      checkValue par d' = g' → d = d' ∧ g = g') ∧
    ∃ d0 data given d, d ≠ d0 ∧ data ≠ d0 ∧ given ≠ checkValue par d0 ∧ checkValue par data ≠ given ∧
      autofixValue par data given = some d

/- ### Pulse-distance decoder and modulator -/

/-- `MODPD` fills `EMIT` with exactly `16 n + 4` bare durations, each slot as the line code says, and changes nothing
else; an emission that does not fit faults with `EMIT` empty (spec 45_modulator.md section 2, 30_encoding.md section 3). -/
def Obligations.ModpdLaysOutTheSlots : Prop :=
  ∀ (s : State) (P : Profile), hasProfile .pd s P →
    (16 * s.txb.length + 4 ≤ s.par.emitMax →
      ∃ ds : List Nat, exec .modpd s = .next { s with emit := ds.map .bare } ∧
        ds.length = 16 * s.txb.length + 4 ∧ ds[0]? = some P.startPulse.send ∧ ds[1]? = some P.startGap.send ∧
        (∀ (j k : Nat) (v : Byte), s.txb[j]? = some v → k < 8 →
          ds[2 + 16 * j + 2 * k]? = some P.bitPulse.send ∧
          ds[3 + 16 * j + 2 * k]? = some (if v.getLsbD k then P.bitGapSendLong else P.bitGapSendShort)) ∧
        ds[16 * s.txb.length + 2]? = some P.stopPulse.send ∧ ds[16 * s.txb.length + 3]? = some P.stopGap.send) ∧
    (s.par.emitMax < 16 * s.txb.length + 4 → exec .modpd s = .next { s with emit := [], fault := ⟨true, 6⟩ })

/-- The round trip of spec 41_pd_decoder.md R113, under the further condition that `SYM` holds the bytes: `PDDEC` on what
`MODPD` filled, with or without the stop gap, gives the bytes back, and nothing else changes. -/
def Obligations.PddecInvertsModpd : Prop :=
  ∀ (s : State) (P : Profile), hasProfile .pd s P → 16 * s.txb.length + 4 ≤ s.par.emitMax →
    s.txb.length ≤ s.par.symMax →
    ∃ ds : List Nat, exec .modpd s = .next { s with emit := ds.map .bare } ∧
      ∀ cap, cap = ds ∨ cap = ds.dropLast →
        exec .pddec { s with cap := cap } = .next
          { s with
            cap := cap
            sym := s.txb.map .byte
            pd := ⟨0, 8 * s.txb.length, 16 * s.txb.length + 3, true⟩
            out := ⟨.bytes, 0, 0, 0⟩ }

/-- Spec 41_pd_decoder.md R112, whole: the final values of a successful `PDDEC`. -/
def Obligations.PddecFinalValues : Prop :=
  ∀ (s r : State), s.fault.v = false → exec .pddec s = .next r → r.fault.v = false → r.out.kind = .bytes →
    (∃ bs : List Byte, r.sym = bs.map .byte ∧ 8 * bs.length = r.pd.nbits) ∧ r.pd.acc = 0 ∧
    r.pd.cur = 2 + 2 * r.pd.nbits + r.pd.stop.toNat ∧ r.out = ⟨.bytes, 0, 0, 0⟩ ∧ r.rep = s.rep

/-- `PDDEC` runs on every capture: it changes only `SYM`, `PD.*` and `OUT.*`, leaves an outcome, empties `SYM` with a bad
packet, and faults only when there are Durations for more bytes than `SYM` holds (spec 41_pd_decoder.md sections 2, 3). -/
def Obligations.PddecChangesOnlyItsOutputs : Prop :=
  ∀ (s : State) (P : Profile), hasProfile .pd s P →
    (∃ sym pd out f, exec .pddec s = .next { s with sym := sym, pd := pd, out := out, fault := f } ∧
      ((f = s.fault ∧ (out.kind = .bytes ∨
          (out.kind = .badPacket ∧ sym = [] ∧ 1 ≤ out.reason.toNat ∧ out.reason.toNat ≤ 7))) ∨
        (f = ⟨true, 4⟩ ∧ out = ⟨.noOutcome, 0, 0, 0⟩ ∧ sym.length = s.par.symMax ∧
          18 + 16 * s.par.symMax ≤ s.cap.length)))

/-- The start pair is validated first and inputs that end in it are named (spec 41_pd_decoder.md section 3: R101 and the
first two cases of R110). -/
def Obligations.PddecValidatesTheStartPair : Prop :=
  ∀ (s : State) (P : Profile), hasProfile .pd s P →
    (s.cap = [] → exec .pddec s = .next
      { s with sym := [], pd := ⟨0, 0, 0, false⟩, out := ⟨.badPacket, 7, 0, 0⟩ }) ∧
    (∀ d0 ds, s.cap = d0 :: ds → ¬(P.startPulse.min ≤ d0 ∧ d0 ≤ P.startPulse.max) → exec .pddec s = .next
      { s with sym := [], pd := ⟨0, 0, 0, false⟩, out := ⟨.badPacket, 1, 0, d0⟩ }) ∧
    (∀ d0, s.cap = [d0] → P.startPulse.min ≤ d0 → d0 ≤ P.startPulse.max → exec .pddec s = .next
      { s with sym := [], pd := ⟨0, 0, 0, false⟩, out := ⟨.badPacket, 6, 0, d0⟩ }) ∧
    (∀ d0 d1 ds, s.cap = d0 :: d1 :: ds → P.startPulse.min ≤ d0 → d0 ≤ P.startPulse.max →
      ¬(P.startGap.min ≤ d1 ∧ d1 ≤ P.startGap.max) → exec .pddec s = .next
      { s with sym := [], pd := ⟨0, 0, 0, false⟩, out := ⟨.badPacket, 2, 0, d1⟩ })

/-- After any in-bounds start pair and any number of good pairs, sent nominally or not, the first Duration that is out of
bounds is named with the bit index, the accumulator holding the bits of the byte in progress (spec 41_pd_decoder.md
section 3: R102 to R104, R109 and the last case of R110). -/
def Obligations.PddecNamesTheFirstBadDuration : Prop :=
  ∀ (s : State) (P : Profile) (d0 d1 p : Nat) (pairs : List (Nat × Nat)) (rest : List Nat) (pd : PdRegs),
    hasProfile .pd s P → within P.startPulse d0 → within P.startGap d1 → (∀ x ∈ pairs, goodPair P x) →
    s.cap = d0 :: d1 :: pairDurations pairs ++ p :: rest → pairs.length / 8 ≤ s.par.symMax →
    pd = ⟨partialByte (readBits P pairs), pairs.length, 2 + 2 * pairs.length, false⟩ →
    (¬within P.bitPulse p → ¬within P.stopPulse p →
      exec .pddec s = .next { s with sym := [], pd := pd, out := ⟨.badPacket, 3, pairs.length, p⟩ }) ∧
    (within P.bitPulse p →
      (rest = [] →
        exec .pddec s = .next { s with sym := [], pd := pd, out := ⟨.badPacket, 6, pairs.length, p⟩ }) ∧
      (∀ g ds, rest = g :: ds → ¬(P.bitGapMin ≤ g ∧ g ≤ P.bitGapMax) →
        exec .pddec s = .next { s with sym := [], pd := pd, out := ⟨.badPacket, 4, pairs.length, g⟩ }))

/-- What `PDDEC` decodes from any in-bounds start pair and any good pairs, sent nominally or not, up to a stop pulse or
the end of the input: a gap strictly above the threshold is a 1, bits are placed LSB first; a bit count that is a
multiple of 8 gives the bytes, any other a bad packet with the count and the partial byte (spec 41_pd_decoder.md
section 3: R101 to R108). -/
def Obligations.PddecRefusesAPartialByte : Prop :=
  ∀ (s : State) (P : Profile) (d0 d1 : Nat) (pairs : List (Nat × Nat)) (stop : Option Nat) (rest : List Nat)
    (pd : PdRegs),
    hasProfile .pd s P → within P.startPulse d0 → within P.startGap d1 → (∀ x ∈ pairs, goodPair P x) →
    (∀ p, stop = some p → within P.stopPulse p) → (stop = none → rest = []) →
    s.cap = d0 :: d1 :: pairDurations pairs ++ stop.toList ++ rest → pairs.length / 8 ≤ s.par.symMax →
    pd = ⟨partialByte (readBits P pairs), pairs.length, 2 + 2 * pairs.length + stop.isSome.toNat, stop.isSome⟩ →
    (pairs.length % 8 = 0 → exec .pddec s = .next
      { s with
        sym := (wholeBytes (readBits P pairs)).map .byte
        pd := { pd with acc := 0 }
        out := ⟨.bytes, 0, 0, 0⟩ }) ∧
    (pairs.length % 8 ≠ 0 → exec .pddec s = .next
      { s with sym := [], pd := pd, out := ⟨.badPacket, 5, pairs.length, pd.acc.toNat⟩ })

/- ### Duty decoder and modulator -/

/-- Spec 45_modulator.md R194, whole: the air time of both emissions is the sum of their durations. -/
def Obligations.AirTimeOfEmissions : Prop :=
  ∀ (s : State) (P : Profile),
    (hasProfile .pd s P → 16 * s.txb.length + 4 ≤ s.par.emitMax →
      ∃ es, exec .modpd s = .next { s with emit := es } ∧
        (es.map entryDuration).sum = P.startPulse.send + P.startGap.send + 8 * s.txb.length * P.bitPulse.send +
          (s.txb.map fun v => ((List.range 8).filter fun k => v.getLsbD k).length).sum * P.bitGapSendLong +
          (s.txb.map fun v => ((List.range 8).filter fun k => !v.getLsbD k).length).sum * P.bitGapSendShort +
          P.stopPulse.send + P.stopGap.send) ∧
    (hasProfile .duty s P → s.txb.length * (9 + P.dutyStopTicks.toNat +
        (if P.dutyPulseSend < P.tickLen then 9 else 0)) ≤ s.par.emitMax →
      ∃ es, exec .modduty s = .next { s with emit := es } ∧
        (es.map entryDuration).sum = s.txb.length * (9 + P.dutyStopTicks.toNat) * P.tickLen)

/-- `MODDUTY` fills `EMIT` with the entries of each byte, each tick with its level and duration, and changes nothing
else; their number is `n * (9 + duty_stop_ticks)` and one more for every pulse tick shorter than a tick; when the worst
case does not fit it faults with `EMIT` empty (spec 45_modulator.md section 3: R190, R192, R193). -/
def Obligations.ModdutyEntryCount : Prop :=
  ∀ (s : State) (P : Profile), hasProfile .duty s P →
    (s.txb.length * (9 + P.dutyStopTicks.toNat + (if P.dutyPulseSend < P.tickLen then 9 else 0)) ≤ s.par.emitMax →
      ∃ es, exec .modduty s = .next { s with emit := es } ∧ es = s.txb.flatMap (byteEntries s.par.pulseBit P) ∧
        es.length = s.txb.length * (9 + P.dutyStopTicks.toNat) +
          (if P.dutyPulseSend < P.tickLen then
            (s.txb.map fun v => 1 + ((List.range 8).filter fun k => v.getLsbD k == s.par.pulseBit).length).sum
          else 0)) ∧
    (s.par.emitMax < s.txb.length * (9 + P.dutyStopTicks.toNat + (if P.dutyPulseSend < P.tickLen then 9 else 0)) →
      exec .modduty s = .next { s with emit := [], fault := ⟨true, 6⟩ })

/-- The round trip of spec 42_duty_decoder.md R132 with the spec's byte of nine ticks and pulse bit 0, where `SYM` holds
the bytes: `DUTYDEC` on what a channel shows of `MODDUTY`'s emission, with or without the last idle time, gives the
bytes back; with `t` the trace shows each byte's start pulse, its bits with a pulse for 0, and its boundary (R131),
without `t` it is empty, and nothing else changes. -/
def Obligations.DutydecInvertsModduty : Prop :=
  ∀ (s : State) (P : Profile) (t : Bool), hasProfile .duty s P → documentDuty s.par →
    P.dutyPulseSend < P.tickLen → (9 + P.dutyStopTicks.toNat) * P.tickLen ≤ s.par.longGap →
    s.txb.length ≤ s.par.symMax → s.txb.length * (18 + P.dutyStopTicks.toNat) ≤ s.par.emitMax →
    ∃ es, exec .modduty s = .next { s with emit := es } ∧
      ∀ cap, cap = channelView es ∨ cap = (channelView es).dropLast →
        exec (.dutydec t) { s with cap := cap } = .next
          { s with
            cap := cap
            sym := s.txb.map .byte
            dt := ⟨0, 0, cap.length, false⟩
            cfg := { s.cfg with trace := t }
            trace :=
              if t then
                s.txb.flatMap fun v => .pulse ::
                  (List.range 8).map (fun k => if v.getLsbD k then .noPulse else .pulse) ++ [.byteBoundary]
              else [] }

/-- `DUTYDEC` runs on every capture: it changes only `SYM`, `DT.*`, `TRACE` and `CFG.trace`; with room for one symbol
more than there are Durations it never faults, ends with its registers cleared and the cursor at the end, never stores
`END`, and produces at most one symbol a pair and one a long gap (spec 42_duty_decoder.md sections 2, 3). -/
def Obligations.DutydecChangesOnlyItsOutputs : Prop :=
  ∀ (s : State) (P : Profile) (t : Bool), hasProfile .duty s P →
    ∃ sym dt tr f, exec (.dutydec t) s = .next
        { s with sym := sym, dt := dt, cfg := { s.cfg with trace := t }, trace := tr, fault := f } ∧
      (t = false → tr = []) ∧ (f = s.fault ∨ (f = ⟨true, 4⟩ ∧ sym.length = s.par.symMax)) ∧
      .endMark ∉ sym ∧ sym.length ≤ s.cap.length + 1 ∧
      sym.length ≤ (s.cap.length + 1) / 2 + (sym.filter fun x => x == .longGap).length ∧
      (s.cap.length + 1 ≤ s.par.symMax → f = s.fault ∧ dt = ⟨0, 0, s.cap.length, false⟩)

/-- What one pair does to a byte in progress, with its trace, after pairs on the grid that shifted `ns` ticks into it (none
of them: a fresh byte): long gap, else completion with the rest padded by ones, tested before the margin, else abort,
else `n - 1` ones and the pulse bit; and what a last pulse without a gap does, long or not (spec 42_duty_decoder.md
section 3: R121 to R128, R131, with the spec's nine ticks and pulse bit 0). -/
def Obligations.DutydecClassifiesAPair : Prop :=
  ∀ (s : State) (P : Profile) (t : Bool) (xs : List ((Nat × Nat) × Nat)) (ns : List Nat) (p g : Nat),
    hasProfile .duty s P → documentDuty s.par → 2 ≤ s.par.symMax → (∀ x ∈ xs, onGrid s P x.1 x.2) →
    ns = xs.map (·.2) → ns.sum ≤ 8 →
    (s.cap = pairDurations (xs.map (·.1)) ++ [p, g] →
      ∃ n e, measures s (p + g) n e ∧
        (longPair s.par p g → exec (.dutydec t) s = .next
          { s with
            sym := [.byte (bitsByte (paddedBits ns)), .longGap]
            dt := ⟨0, 0, s.cap.length, false⟩
            cfg := { s.cfg with trace := t }
            trace := if t then .pulse :: bitMarks (paddedBits ns) ++ [.byteBoundary, .packetBoundary] else [] }) ∧
        (¬longPair s.par p g → 9 ≤ ns.sum + n → exec (.dutydec t) s = .next
          { s with
            sym := [.byte (bitsByte (paddedBits ns))]
            dt := ⟨0, 0, s.cap.length, false⟩
            cfg := { s.cfg with trace := t }
            trace := if t then .pulse :: bitMarks (paddedBits ns) ++ [.byteBoundary] else [] }) ∧
        (¬longPair s.par p g → ns.sum + n ≤ 8 → (n = 0 ∨ P.tickMargin < e) → exec (.dutydec t) s = .next
          { s with
            sym := [.byteError]
            dt := ⟨0, 0, s.cap.length, false⟩
            cfg := { s.cfg with trace := t }
            trace := if t then .pulse :: bitMarks (tickBits ns) ++ [.abortedByte] else [] }) ∧
        (¬longPair s.par p g → ns.sum + n ≤ 8 → 1 ≤ n → e ≤ P.tickMargin → exec (.dutydec t) s = .next
          { s with
            sym := [.byte (bitsByte (paddedBits (ns ++ [n])))]
            dt := ⟨0, 0, s.cap.length, false⟩
            cfg := { s.cfg with trace := t }
            trace := if t then .pulse :: bitMarks (paddedBits (ns ++ [n])) ++ [.byteBoundary] else [] })) ∧
    (s.cap = pairDurations (xs.map (·.1)) ++ [p] → exec (.dutydec t) s = .next
      { s with
        sym := .byte (bitsByte (paddedBits ns)) :: if s.par.longGap < p then [.longGap] else []
        dt := ⟨0, 0, s.cap.length, false⟩
        cfg := { s.cfg with trace := t }
        trace :=
          if t then
            .pulse :: bitMarks (paddedBits ns) ++ .byteBoundary :: if s.par.longGap < p then [.packetBoundary] else []
          else [] })

/- ### Framer -/

/-- A whole packet, after anything a `LongGap` closed and after `LongGap`s and trailer bytes: its pieces give their
payload entries (destuffed bytes, and `Invalid` for a damaged byte, a bad escape, or an escape cut by the packet's end),
the payload gives its one report, by the closed form of the check value or `ERROR`, after the reports of what stood
before; nothing else changes, the coder's registers included (spec 43_framer.md sections 2, 3: R141, R144 to R149, R152
to R154, 30_encoding.md section 5; that a report leaves `RC.*` alone: assumption log 8). -/
def Obligations.FrameDestuffsAndClassifies : Prop :=
  ∀ (s : State) (P : Profile) (lead skipped : List Symbol) (ps : List PayPiece) (fin : PacketEnd)
    (es : List PayEntry),
    hasProfile .duty s P → documentCoder s.par → documentFraming s.par → P.term ≠ s.par.esc →
    closedLead s.par lead → (∀ y ∈ skipped, passedOver P y) → (∀ p ∈ ps, pieceLawful s.par P p) →
    es = ps.map (pieceEntry s.par) ++ endEntries fin → es.length ≤ s.par.payloadMax →
    s.sym = lead ++ skipped ++ P.startSeq.map .byte ++ ps.flatMap (pieceSymbols s.par) ++ endSymbols s.par P fin →
    ∃ u r, exec .frame { s with sym := lead } = .next u ∧ reportOfEntries es r ∧ exec .frame s = .next
      { s with
        frm := ⟨.seeking, 0, s.sym.length, false, false, 0, u.frm.mmValid, u.frm.mmPos⟩
        pay := es
        rep := u.rep.dropLast ++ [r, endReport] } ∧
      (lead = [] → u.frm.mmValid = false ∧ u.frm.mmPos = 0 ∧ u.rep = [endReport])

/-- Failed packets give exactly one noise report when no packet closes between them, `?` for one and `??` for more,
wherever in the template each mismatch falls, however many symbols follow it, whether or not it is itself a boundary,
and with the last cut by the end of the data or not; the first mismatch's position is recorded and nothing else changes
(spec 43_framer.md section 3: R141 to R143, R150, R151, R153, R154, R157 (a)). -/
def Obligations.FrameReportsOneMismatchOnce : Prop :=
  ∀ (s : State) (P : Profile) (fs all : List FailedPacket) (cut : Option FailedPacket) (f : FailedPacket)
    (rest : List Symbol), hasProfile .duty s P →
    (∀ x ∈ fs, failedWhole P x) → (∀ x, cut = some x → failedCut P x) → (∀ y ∈ rest, passedOver P y) →
    (cut ≠ none → rest = []) → all = fs ++ cut.toList → all.head? = some f →
    s.sym = all.flatMap (failedSymbols P) ++ rest →
    exec .frame s = .next
      { s with
        frm := ⟨.seeking, 0, s.sym.length, false, false, 0, true, f.lead.length + f.matched⟩
        pay := []
        rep := [⟨if all.length = 1 then .noise1 else .noise2, 0, []⟩, endReport] }

/-- `FRAME` runs on every list of at most `PAYLOAD_MAX` symbols without a stored `END`: it changes only `FRM.*`, `PAY`
and `REP`, ends in `Seeking` with its flags clear, closes `REP` with the one `END` report, never reports noise twice in a
row, and reports at most twice for each boundary and the end (spec 43_framer.md section 3: R153 to R157; that a report
leaves `RC.*` alone: assumption log 8). -/
def Obligations.FrameFinalValues : Prop :=
  ∀ (s : State) (P : Profile), hasProfile .duty s P → s.sym.length ≤ s.par.payloadMax → .endMark ∉ s.sym →
    ∃ mmValid mmPos pay rep, exec .frame s = .next
        { s with
          frm := ⟨.seeking, 0, s.sym.length, false, false, 0, mmValid, mmPos⟩
          pay := pay
          rep := rep ++ [endReport] } ∧
      (∀ r ∈ rep, r.kind ≠ .finish) ∧
      (∀ i a b, rep[i]? = some a → rep[i + 1]? = some b → ¬(isNoise a = true ∧ isNoise b = true)) ∧
      (rep ++ [endReport]).length ≤ 2 * ((s.sym.filter (isBoundary P)).length + 2) ∧ mmPos ≤ s.sym.length

/-- A stored `END`, wherever it stands, and an entry for a full `PAY`, whatever its pieces, whatever a `LongGap` closed
before its packet, and whatever asks for the entry (a piece, or an escape cut by a `LongGap` or by the end of the data),
are internal faults, found at the symbol: the cursor is there, `PAY` and `REP` are as they stood then, which is what the
symbols before would have given without what their end adds (an `Invalid` for a pending escape, the report of an open
packet, noise still pending, `END`); nothing else changes, the coder's registers included (spec 43_framer.md section 3:
R153 to R155; the other `FRM.*` after a fault: assumption log 16; that the pairs classified before the fault leave `RC.*`
alone: assumption log 8). -/
def Obligations.FrameFaultsOnBadInput : Prop :=
  ∀ (s : State) (P : Profile), hasProfile .duty s P →
    (∀ before rest : List Symbol, .endMark ∉ before → before.length ≤ s.par.payloadMax →
      s.sym = before ++ .endMark :: rest →
      ∃ frm pay rep u, exec .frame s = .next { s with frm := frm, pay := pay, rep := rep, fault := ⟨true, 8⟩ } ∧
        frm.cur = before.length ∧ exec .frame { s with sym := before } = .next u ∧ cutShort frm pay rep u) ∧
    (∀ (lead skipped extra rest : List Symbol) (ps : List PayPiece) (back : Nat), documentFraming s.par →
      P.term ≠ s.par.esc → closedLead s.par lead → (∀ y ∈ skipped, passedOver P y) →
      (∀ p ∈ ps, pieceLawful s.par P p) → ps.length = s.par.payloadMax → oneEntryMore s.par P extra rest back →
      s.sym = lead ++ skipped ++ P.startSeq.map .byte ++ ps.flatMap (pieceSymbols s.par) ++ extra ++ rest →
      ∃ frm rep u, exec .frame s = .next
          { s with frm := frm, pay := ps.map (pieceEntry s.par), rep := rep, fault := ⟨true, 5⟩ } ∧
        frm.st = .inPayload ∧ frm.cur + back + rest.length = s.sym.length ∧
        exec .frame { s with sym := lead } = .next u ∧ rep ++ noiseMarker frm.abortRun ++ [endReport] = u.rep)

/-- `CROP` cuts `crop_lead` bytes at the front and `crop_trail` at the end, with one `DUMP` report; a packet too short
is a bad packet; a symbol that is no byte is a fault; nothing else changes (spec 43_framer.md section 4). -/
def Obligations.CropCutsLeadAndTrail : Prop :=
  ∀ (s : State) (P : Profile), hasProfile .pd s P →
    (∀ lead body trail : List Byte, lead.length = P.cropLead.toNat → trail.length = P.cropTrail.toNat →
      s.sym = (lead ++ body ++ trail).map .byte →
      (body.length ≤ s.par.payloadMax → exec .crop s = .next
        { s with
          pay := body.map .valid
          rep := [⟨.dump, 0, body.map .valid⟩]
          out := ⟨.bytes, 0, 0, 0⟩ }) ∧
      (s.par.payloadMax < body.length → exec .crop s = .next
        { s with
          pay := (body.take s.par.payloadMax).map .valid
          rep := []
          out := ⟨.noOutcome, 0, 0, 0⟩
          fault := ⟨true, 5⟩ })) ∧
    (∀ bs : List Byte, s.sym = bs.map .byte → bs.length < P.cropLead.toNat + P.cropTrail.toNat →
      exec .crop s = .next
        { s with
          pay := []
          rep := []
          out := ⟨.badPacket, 10, bs.length, P.cropLead.toNat + P.cropTrail.toNat⟩ }) ∧
    ((∃ x ∈ s.sym, ∀ v, x ≠ .byte v) → exec .crop s = .next
      { s with pay := [], rep := [], out := ⟨.noOutcome, 0, 0, 0⟩, fault := ⟨true, 8⟩ })

/- ### Sequencer -/

/-- `PROFSEL` selects the row `OP.a` of the table and changes nothing else; beyond the table it faults (spec
46_sequencer.md section 2). -/
def Obligations.ProfselSelectsARow : Prop :=
  ∀ (s : State),
    (s.op.a < s.profiles.length →
      exec .profsel s = .next { s with cfg := ⟨s.op.a, true, s.cfg.trace⟩ } ∧
      selectedProfile { s with cfg := ⟨s.op.a, true, s.cfg.trace⟩ } = s.profiles[s.op.a]?) ∧
    (s.profiles.length ≤ s.op.a → exec .profsel s = .next { s with fault := ⟨true, 2⟩ })

/-- `XRESET` puts everything of the "step start" column at its value, pauses and empties the capture peripheral, and
leaves all else, `FAULT` included (spec 46_sequencer.md section 2, 70_reset_and_hazards.md section 2). -/
def Obligations.XresetIsTheStepReset : Prop :=
  ∀ (s : State), exec .xreset s = .next
    { s with
      pd := ⟨0, 0, 0, false⟩
      dt := ⟨0, 0, 0, false⟩
      frm := ⟨.seeking, 0, 0, false, false, 0, false, 0⟩
      seq := ⟨.idle, s.seq.step⟩
      capFull := false
      out := ⟨.noOutcome, 0, 0, 0⟩
      cap := [], sym := [], pay := [], rep := [], emit := [], log := [], trace := []
      capDev := ⟨true, []⟩ }

/-- A capture takes an initial part of the arrivals: each in time after the one before and within the length limit, the
log its first part; it ends with nothing, on a full buffer, in silence, or too long, as the time rules say (spec
46_sequencer.md section 4: R205 to R209). -/
def Obligations.CaptureFollowsTheTimeRules : Prop :=
  ∀ (par : EngineParams) (P : Profile) (W : Option Nat) (tr : List Arrival) (c : Capture) (e : CaptureEnd),
    1 ≤ par.captureMax → traceAdmitted par tr = true → capture par P W tr ⟨[], [], ⟨false, []⟩⟩ = (c, e) →
    ∃ k, k ≤ tr.length ∧ k ≤ par.captureMax ∧ c.cap = (tr.take k).map (·.dur) ∧ c.log = c.cap.take par.logMax ∧
      (∀ j a b, j + 1 < k → tr[j]? = some a → tr[j + 1]? = some b →
        b.time - a.time ≤ P.packetContinueTimeout ∧ b.time - (tr.headD a).time ≤ P.packetLengthTimeout) ∧
      (k = 0 ↔ (tr = [] ∨ ∃ a w, tr.head? = some a ∧ W = some w ∧ w ≤ a.time)) ∧
      (e = .nothingReceived ↔ k = 0) ∧ (e = .captured true ↔ k = par.captureMax) ∧
      (0 < k → k < par.captureMax → ∀ a, tr[k - 1]? = some a →
        (e = .tooLong ↔
          (if ∃ b, tr[k]? = some b ∧ b.time - a.time ≤ P.packetContinueTimeout then
            ∃ b, tr[k]? = some b ∧ P.packetLengthTimeout < b.time - (tr.headD a).time
          else P.packetLengthTimeout < a.time + P.packetContinueTimeout - (tr.headD a).time)) ∧
        (e = .captured false → ∀ b, tr[k]? = some b → P.packetContinueTimeout < b.time - a.time))

/-- Where a receive has no meaning or no end: an arrival trace that is not ascending, or holds no Duration, is refused
(93_implementation_defined.md section 1: U19; the refusal's form is the model's choice, assumption log 11), and a
conversation that opens with an unbounded wait for nothing has no next state (spec 46_sequencer.md sections 5, 6: its
form is log 12; the lists of arrival traces and the command list are the model's choice, assumption log 2, 3). -/
def Obligations.StopsOfAReceive : Prop :=
  ∀ (s : State) (P : Profile) (w t : Bool), profileWellFormed P = true →
    (traceAdmitted s.par (nextTrace s) = false →
      (selectedProfile s = some P → exec (.rxstep w t) s = .refused .traceIllFormed) ∧
      (selectedProfile s = some P → (P.kind = .pd → 16 * s.txb.length + 4 ≤ s.par.emitMax) →
        (P.kind = .duty → s.txb.length * (18 + P.dutyStopTicks.toNat) ≤ s.par.emitMax) →
        exec (.txrxstep t) s = .refused .traceIllFormed) ∧
      (∀ f ps, s.cmdList = ⟨f, false, ps⟩ → s.profiles[f]? = some P →
        exec (.converse w t) s = .refused .traceIllFormed)) ∧
    (nextTrace s = [] → ∀ f ps, s.cmdList = ⟨f, false, ps⟩ → s.profiles[f]? = some P →
      exec (.converse true t) s = .fault .waitForever)

/-- A receive step on which nothing arrives before `reply_timeout` ends `TimedOut`, everything else as the step reset
leaves it; what came at the limit itself may stay in the peripheral's queue (model's choice, assumption log 13). With
`w` and no arrival at all there is no next state (spec 46_sequencer.md sections 4, 5: R206, R210, R217; the list of
arrival traces is the model's choice, assumption log 2; the form of the stop: assumption log 12). -/
def Obligations.RxstepWithNothingInTime : Prop :=
  ∀ (s : State) (P : Profile) (t : Bool), selectedProfile s = some P → profileWellFormed P = true →
    traceAdmitted s.par (nextTrace s) = true →
    ((∀ a, (nextTrace s).head? = some a → P.replyTimeout ≤ a.time) →
      ∃ q, exec (.rxstep false t) s = .next
        { stepReset s with
          cfg := { s.cfg with trace := t }
          arrivals := s.arrivals.tail
          capDev := ⟨true, q⟩
          seq := ⟨.timedOut, s.seq.step⟩
          out := ⟨.timedOut, 1, 0, 0⟩ }) ∧
    (nextTrace s = [] → exec (.rxstep true t) s = .fault .waitForever)

/-- `RXSTEP` on what a real channel shows of a peer's pulse-distance packet, taken whole: the cropped bytes in a `DUMP`
report inside the outcome `Bytes`, and every other register as the step leaves it (spec 46_sequencer.md section 5; the list of
arrival traces is the model's choice, assumption log 2). -/
def Obligations.RxstepReceivesAPulseDistancePacket : Prop :=
  ∀ (s : State) (P : Profile) (w t : Bool) (idle : Nat) (lead body trail : List Byte) (ds : List Nat),
    hasProfile .pd s P → ds = (pdEmission P (lead ++ body ++ trail)).dropLast →
    nextTrace s = arrivalsFrom idle ds → capturedWhole s.par P w idle ds →
    lead.length = P.cropLead.toNat → trail.length = P.cropTrail.toNat →
    (lead ++ body ++ trail).length ≤ s.par.symMax → body.length ≤ s.par.payloadMax →
    exec (.rxstep w t) s = .next
      { stepReset s with
        cfg := { s.cfg with trace := t }
        arrivals := s.arrivals.tail
        capDev := ⟨true, []⟩
        cap := ds
        log := ds.take s.par.logMax
        sym := (lead ++ body ++ trail).map .byte
        pd := ⟨0, 8 * (lead ++ body ++ trail).length, 16 * (lead ++ body ++ trail).length + 3, true⟩
        pay := body.map .valid
        rep := [⟨.dump, 0, body.map .valid⟩]
        out := ⟨.bytes, 0, 0, 0⟩
        seq := ⟨.decoded, s.seq.step⟩ }

/-- `RXSTEP` on what a real channel shows of a peer's framed duty packet, taken whole: the packet's report and `END`
inside the outcome `Bytes` (spec 46_sequencer.md section 5; the document's end-to-end property, 95_test_vectors.md
section 1; the list of arrival traces is the model's choice, assumption log 2; that the classified pair leaves `RC.*`
alone: assumption log 8). -/
def Obligations.RxstepReceivesAFramedPacket : Prop :=
  ∀ (s : State) (P : Profile) (w t : Bool) (idle : Nat) (bs bytes : List Byte) (ds : List Nat),
    hasProfile .duty s P → documentCoder s.par → documentFraming s.par → documentDuty s.par →
    P.dutyPulseSend < P.tickLen → (9 + P.dutyStopTicks.toNat) * P.tickLen ≤ s.par.longGap →
    P.term ≠ s.par.esc → (∀ v ∈ bs, carriable s.par P v) →
    bytes = P.startSeq ++ bs.flatMap (stuffByte s.par) ++ [P.term] →
    ds = (channelView (dutyEmission false P bytes)).dropLast →
    nextTrace s = arrivalsFrom idle ds → capturedWhole s.par P w idle ds →
    bytes.length ≤ s.par.symMax → bs.length ≤ s.par.payloadMax →
    ∃ r u, reportOf bs r ∧ exec (.rxstep w t) s = .next u ∧ u.fault = s.fault ∧ u.rc = s.rc ∧ u.cap = ds ∧
      u.sym = bytes.map .byte ∧ u.pay = bs.map .valid ∧ u.rep = [r, endReport] ∧
      u.out = ⟨.bytes, 0, 0, 0⟩ ∧ u.seq = ⟨.decoded, s.seq.step⟩ ∧ u.capDev = ⟨true, []⟩ ∧
      u.op = s.op ∧ u.res = s.res ∧ u.tq = s.tq ∧ u.conv = s.conv ∧ u.txb = s.txb ∧ u.emit = []

/-- What a step of either kind that captured something leaves, receive-first or transmit-first, is what the unit operations
make of its capture, so running them again on its end state changes nothing. Pulse-distance: `PDDEC`, and `CROP` only if
that ended in `Bytes`, so a bad `PDDEC` keeps its reason. Duty: `DUTYDEC` with the step's `t` bit, then `FRAME`; the
outcome is `Bytes` when a packet was closed or nothing was aborted, else `BadPacket("framing")` with the first mismatch
and its symbol, `END` (0x300) where the data ended (spec 46_sequencer.md section 5: R211). -/
def Obligations.DutyStepOutcome : Prop :=
  ∀ (s r : State) (P : Profile) (w t : Bool) (i : Instr), (i = .rxstep w t ∨ i = .txrxstep t) →
    selectedProfile s = some P → profileWellFormed P = true → s.fault.v = false →
    exec i s = .next r → r.fault.v = false → r.out.kind ≠ .timedOut → r.out.reason ≠ 8 →
    (P.kind = .pd →
      ∃ d, exec .pddec r = .next d ∧
        (d.out.kind ≠ .bytes → d = r ∧ r.out.kind = .badPacket ∧ 1 ≤ r.out.reason.toNat ∧ r.out.reason.toNat ≤ 7 ∧
          r.sym = [] ∧ r.pay = [] ∧ r.rep = []) ∧
        (d.out.kind = .bytes → exec .crop d = .next r ∧
          (r.out = ⟨.bytes, 0, 0, 0⟩ ∨
            (r.out = ⟨.badPacket, 10, r.sym.length, P.cropLead.toNat + P.cropTrail.toNat⟩ ∧ r.pay = [] ∧
              r.rep = [])))) ∧
    (P.kind = .duty →
      (∃ d, exec (.dutydec t) r = .next d ∧ exec .frame d = .next r) ∧
      if (∃ x ∈ r.rep, x.kind ∈ [ReportKind.ok, .autofix, .chkfail, .error]) ∨ r.frm.mmValid = false then
        r.out = ⟨.bytes, 0, 0, 0⟩
      else
        r.out.kind = .badPacket ∧ r.out.reason = 9 ∧ r.out.position = r.frm.mmPos ∧ r.frm.mmPos ≤ r.sym.length ∧
        (r.frm.mmPos = r.sym.length → r.out.value = 0x300) ∧
        (∀ v, r.sym[r.frm.mmPos]? = some (.byte v) → r.out.value = v.toNat) ∧
        (r.sym[r.frm.mmPos]? = some .byteError → r.out.value = 0x100) ∧
        (r.sym[r.frm.mmPos]? = some .longGap → r.out.value = 0x200))

/-- A capture that exceeds `packet_length_timeout` ends the step with `BadPacket("too long")`, the capture kept and no
decoder run; what came after it may stay in the peripheral's queue (spec 46_sequencer.md sections 4, 5: R209, R210; the
queue and the list of arrival traces are the model's choice, assumption log 2, 13). -/
def Obligations.RxstepReportsTooLong : Prop :=
  ∀ (s : State) (P : Profile) (w t : Bool) (c : Capture), selectedProfile s = some P →
    profileWellFormed P = true → traceAdmitted s.par (nextTrace s) = true →
    capture s.par P (if w then none else some P.replyTimeout) (nextTrace s) ⟨[], [], ⟨false, []⟩⟩ = (c, .tooLong) →
    ∃ q, exec (.rxstep w t) s = .next
      { stepReset s with
        cfg := { s.cfg with trace := t }
        arrivals := s.arrivals.tail
        capDev := ⟨true, q⟩
        cap := c.cap
        log := c.log
        out := ⟨.badPacket, 8, c.cap.length, P.packetLengthTimeout⟩
        seq := ⟨.badPacket, s.seq.step⟩ }

/-- `TXRXSTEP` fills and sends the emission of `TXB`, whatever the profile's kind, then waits for `reply_timeout`; with no
answer it ends `TimedOut` (spec 46_sequencer.md section 5: R212; the record of what was sent and the list of arrival
traces are the model's choice, assumption log 2, 20). -/
def Obligations.TxrxstepSendsBeforeItWaits : Prop :=
  ∀ (s : State) (P : Profile) (t : Bool) (es : List EmitEntry), selectedProfile s = some P →
    profileWellFormed P = true →
    (P.kind = .pd → 16 * s.txb.length + 4 ≤ s.par.emitMax ∧ es = (pdEmission P s.txb).map .bare) →
    (P.kind = .duty → s.txb.length * (18 + P.dutyStopTicks.toNat) ≤ s.par.emitMax ∧
      es = dutyEmission s.par.pulseBit P s.txb) →
    traceAdmitted s.par (nextTrace s) = true → (∀ a, (nextTrace s).head? = some a → P.replyTimeout ≤ a.time) →
    ∃ q, exec (.txrxstep t) s = .next
      { stepReset s with
        cfg := { s.cfg with trace := t }
        arrivals := s.arrivals.tail
        emit := es
        port := ⟨true, false, s.port.sent ++ [es]⟩
        capDev := ⟨true, q⟩
        seq := ⟨.timedOut, s.seq.step⟩
        out := ⟨.timedOut, 1, 0, 0⟩ }

/-- `TXRXSTEP` with a peer that answers in time with a pulse-distance packet: both halves of the exchange (spec
46_sequencer.md section 5: R212; the record of what was sent and the list of arrival traces are the model's choice,
assumption log 2, 20). -/
def Obligations.TxrxstepExchangesPulseDistancePackets : Prop :=
  ∀ (s : State) (P : Profile) (t : Bool) (idle : Nat) (lead body trail : List Byte) (ds : List Nat),
    hasProfile .pd s P → 16 * s.txb.length + 4 ≤ s.par.emitMax →
    ds = (pdEmission P (lead ++ body ++ trail)).dropLast →
    nextTrace s = arrivalsFrom idle ds → capturedWhole s.par P false idle ds →
    lead.length = P.cropLead.toNat → trail.length = P.cropTrail.toNat →
    (lead ++ body ++ trail).length ≤ s.par.symMax → body.length ≤ s.par.payloadMax →
    exec (.txrxstep t) s = .next
      { stepReset s with
        cfg := { s.cfg with trace := t }
        arrivals := s.arrivals.tail
        emit := (pdEmission P s.txb).map .bare
        port := ⟨true, false, s.port.sent ++ [(pdEmission P s.txb).map .bare]⟩
        capDev := ⟨true, []⟩
        cap := ds
        log := ds.take s.par.logMax
        sym := (lead ++ body ++ trail).map .byte
        pd := ⟨0, 8 * (lead ++ body ++ trail).length, 16 * (lead ++ body ++ trail).length + 3, true⟩
        pay := body.map .valid
        rep := [⟨.dump, 0, body.map .valid⟩]
        out := ⟨.bytes, 0, 0, 0⟩
        seq := ⟨.decoded, s.seq.step⟩ }

/-- The final values of a step that did not fault: `SEQ.st` names the outcome, the log is the first part of the capture,
the peripheral is paused, and only `CONVERSE` writes `CONV.*` and `SEQ.step`; after `TXRXSTEP`, `EMIT` holds what was sent
and `TXB` is unchanged; `CAP.full` says that the capture filled `CAP` (spec 46_sequencer.md sections 4, 6: R208, R218;
that a step leaves `RC.*` alone: assumption log 8; the record of what was sent is the model's choice, assumption
log 20). -/
def Obligations.StepFinalValues : Prop :=
  ∀ (s r : State) (w t : Bool) (i : Instr), (i = .rxstep w t ∨ i = .txrxstep t) → s.fault.v = false →
    exec i s = .next r → r.fault.v = false →
    ((r.out.kind = .bytes ∧ r.seq.st = .decoded) ∨ (r.out.kind = .badPacket ∧ r.seq.st = .badPacket) ∨
      (r.out.kind = .timedOut ∧ r.seq.st = .timedOut ∧ r.cap = [])) ∧
    r.log = r.cap.take r.par.logMax ∧ r.capDev.paused = true ∧ r.conv = s.conv ∧ r.seq.step = s.seq.step ∧
    r.txb = s.txb ∧ r.op = s.op ∧ r.res = s.res ∧ r.tq = s.tq ∧ r.rc = s.rc ∧ r.cfg = { s.cfg with trace := t } ∧
    (1 ≤ s.par.captureMax →
      r.cap.length ≤ s.par.captureMax ∧ (r.capFull = true ↔ r.cap.length = s.par.captureMax)) ∧
    (i = .txrxstep t → r.port.sent = s.port.sent ++ [r.emit])

/-- Each step starts from the exchange-step reset, so its result depends on nothing an earlier operation left but the
configuration, the fault register, the packet to send and the arrivals (spec 10_state.md section 11: R21; the list of
arrival traces is the model's choice, assumption log 2). -/
def Obligations.StepsDependOnNothingEarlier : Prop :=
  ∀ (a b : State) (w t : Bool) (i : Instr), (i = .rxstep w t ∨ i = .txrxstep t) →
    a.par = b.par → a.profiles = b.profiles → a.cfg.sel = b.cfg.sel → a.cfg.valid = b.cfg.valid →
    a.fault = b.fault → a.txb = b.txb → a.arrivals = b.arrivals →
    agreeBy stepView (exec i a) (exec i b)

/-- Diagram mode changes no result: with and without the `t` bit an operation ends alike but for the trace and its flag
(spec 60_exceptions.md section 8: R246). -/
def Obligations.DiagramModeChangesNoResult : Prop :=
  ∀ (s : State) (w : Bool), ∀ f ∈ [Instr.dutydec, .rxstep w, .txrxstep, .converse w],
    agreeBy withoutTrace (exec (f true) s) (exec (f false) s)

/-- `CONVERSE` with no packet and this side first selects the profile, clears its counters, leaves no outcome in `OUT`
and does nothing else (spec 46_sequencer.md section 6: R214, R215, 93_implementation_defined.md section 1: U12; that all
of `OUT.*` is cleared: assumption log 22; that `CFG.trace` and the model's result list are written, and the command list
itself, are the model's choice, assumption log 3, 14, 20). -/
def Obligations.ConverseWithNothingToDo : Prop :=
  ∀ (s : State) (w t : Bool) (f : Nat), s.cmdList = ⟨f, true, []⟩ → f < s.profiles.length →
    exec (.converse w t) s = .next
      { s with
        op := ⟨f, s.op.b⟩
        cfg := ⟨f, true, t⟩
        conv := ⟨0, false⟩
        seq := ⟨s.seq.st, 0⟩
        out := ⟨.noOutcome, 0, 0, 0⟩
        results := [] }

/-- The faults of `CONVERSE` itself: a family beyond the table before anything else, and a packet longer than `TXB` when
its turn comes, as the first or after a conversation of the packets before it whose steps all ended in `Bytes` (spec
46_sequencer.md section 6: R214, 60_exceptions.md section 5: R241; that `CFG.trace` and the result list are written, the
command list itself, and that the second fault comes before the refusal of an ill-formed profile, are the model's choice,
assumption log 3, 14, 20, 25). -/
def Obligations.ConverseFaults : Prop :=
  ∀ (s : State) (w t : Bool) (f : Nat) (i : Bool) (ps rest : List (List Byte)) (p : List Byte),
    (s.cmdList = ⟨f, i, ps⟩ → s.profiles.length ≤ f → exec (.converse w t) s = .next
      { s with
        op := ⟨f, s.op.b⟩, cfg := { s.cfg with trace := t }, results := [], fault := ⟨true, 2⟩ }) ∧
    (s.cmdList = ⟨f, true, p :: rest⟩ → f < s.profiles.length → s.par.txMax < p.length →
      exec (.converse w t) s = .next
        { s with
          op := ⟨f, s.op.b⟩, cfg := ⟨f, true, t⟩, conv := ⟨0, false⟩, seq := ⟨s.seq.st, 0⟩, results := []
          fault := ⟨true, 7⟩ }) ∧
    (∀ u, s.cmdList = ⟨f, i, ps ++ p :: rest⟩ → (ps ≠ [] ∨ i = false) → s.par.txMax < p.length →
      exec (.converse w t) { s with cmdList := ⟨f, i, ps⟩ } = .next u → u.fault.v = false → u.out.kind = .bytes →
      exec (.converse w t) s = .next
        { u with cmdList := s.cmdList, seq := ⟨u.seq.st, u.conv.done⟩, fault := ⟨true, 7⟩ })

/-- `CONVERSE` with one packet and this side first is the selection followed by one transmit-first step, here with a
peer that answers in time: the step is counted, nothing is left over, and its result is handed out (spec
46_sequencer.md section 6: R214; the lists of arrival traces, results and sent sequences are the model's choice,
assumption log 2, 3, 20). -/
def Obligations.ConverseRunsOneExchange : Prop :=
  ∀ (s : State) (P : Profile) (w t : Bool) (f idle : Nat) (packet lead body trail : List Byte) (ds : List Nat),
    s.cmdList = ⟨f, true, [packet]⟩ → s.profiles[f]? = some P → P.kind = .pd → profileWellFormed P = true →
    packet.length ≤ s.par.txMax → 16 * packet.length + 4 ≤ s.par.emitMax → s.fault.v = false →
    ds = (pdEmission P (lead ++ body ++ trail)).dropLast →
    nextTrace s = arrivalsFrom idle ds → capturedWhole s.par P false idle ds →
    lead.length = P.cropLead.toNat → trail.length = P.cropTrail.toNat →
    (lead ++ body ++ trail).length ≤ s.par.symMax → body.length ≤ s.par.payloadMax →
    ∃ r, exec (.converse w t) s = .next r ∧ r.fault.v = false ∧ r.op = ⟨f, s.op.b⟩ ∧ r.cfg = ⟨f, true, t⟩ ∧
      r.txb = packet ∧ r.port.sent = s.port.sent ++ [(pdEmission P packet).map .bare] ∧
      r.pay = body.map .valid ∧ r.rep = [⟨.dump, 0, body.map .valid⟩] ∧ r.out = ⟨.bytes, 0, 0, 0⟩ ∧
      r.seq = ⟨.decoded, 0⟩ ∧ r.conv = ⟨1, false⟩ ∧ r.arrivals = s.arrivals.tail ∧
      r.results.map (·.out) = [⟨.bytes, 0, 0, 0⟩] ∧ r.results.map (·.rep) = [r.rep] ∧
      r.res = s.res ∧ r.tq = s.tq ∧ r.rc = s.rc

/-- `CONVERSE` with no packet and the other side first is the selection followed by one receive step with its `w` and `t`
bits, counted and handed out whatever its outcome, with nothing left over (spec 46_sequencer.md section 6: R214, R215;
the command list, `CFG.trace` written at the start and the list of results are the model's choice, assumption log 3, 14,
20). -/
def Obligations.ConverseOpensWithAReceive : Prop :=
  ∀ (s u : State) (w t : Bool) (f : Nat), s.cmdList = ⟨f, false, []⟩ → f < s.profiles.length →
    exec (.rxstep w t)
      { s with
        op := ⟨f, s.op.b⟩, cfg := ⟨f, true, t⟩, conv := ⟨0, false⟩, seq := ⟨s.seq.st, 0⟩, results := [] } = .next u →
    u.fault.v = false →
    exec (.converse w t) s = .next { u with conv := ⟨1, false⟩, results := [⟨u.out, u.rep, u.trace⟩] }

/-- The steps of a conversation, in order. With this side first the first step sends the first packet; a packet after
others is sent by a step of its own, run from where the conversation of the packets before it ended, if that ended in
`Bytes`, and is left over if it did not. So a conversation that did not fault stopped at the first step whose outcome is
not `Bytes`: `CONV.done` counts the steps that ran, `CONV.aborted` says that some were left, and a packet was sent for
each step but an opening receive (spec 46_sequencer.md section 6: R214 to R216; the command list and the lists of results
and sent sequences are the model's choice, assumption log 3, 20; `CFG.trace`: assumption log 14). -/
def Obligations.ConversationStopsAtTheFirstFailure : Prop :=
  ∀ (s : State) (w t : Bool), s.fault.v = false → conversationLength s.cmdList < 2 ^ 16 →
    (∀ f p, s.cmdList = ⟨f, true, [p]⟩ → f < s.profiles.length → p.length ≤ s.par.txMax →
      exec (.converse w t) s = afterLastStep 1 (exec (.txrxstep t)
        { s with
          op := ⟨f, s.op.b⟩, cfg := ⟨f, true, t⟩, conv := ⟨0, false⟩, seq := ⟨s.seq.st, 0⟩, results := []
          txb := p })) ∧
    (∀ f i ps p, s.cmdList = ⟨f, i, ps ++ [p]⟩ → (ps ≠ [] ∨ i = false) → p.length ≤ s.par.txMax →
      exec (.converse w t) s =
        withOneMore t s.cmdList p (exec (.converse w t) { s with cmdList := ⟨f, i, ps⟩ })) ∧
    ∀ r, exec (.converse w t) s = .next r → r.fault.v = false →
      r.results.length ≤ conversationLength s.cmdList ∧ r.conv.done.toNat = r.results.length ∧
      (r.conv.aborted = true ↔ r.results.length < conversationLength s.cmdList) ∧
      (∀ j x, r.results[j]? = some x → x.out.kind ≠ .bytes → j + 1 = r.results.length) ∧
      (∀ j x, r.results[j]? = some x → j + 1 = r.results.length → x.out = r.out) ∧
      (r.results.length < conversationLength s.cmdList → ∃ x ∈ r.results, x.out.kind ≠ .bytes) ∧
      r.port.sent.length + (if s.cmdList.initiator then 0 else 1) = s.port.sent.length + r.results.length

/- ### Invariants -/

/-- Every step keeps every buffer within its capacity (spec 10_state.md section 6: R17; what the
host writes is a list of actions that fit, the model's choice, assumption log 1, 17). -/
def Obligations.StepKeepsBuffersWithinCapacity : Prop :=
  ∀ s r : State, withinCapacity s → step s = .next r → withinCapacity r

/-- Every step keeps the narrow registers within the values their tables give (spec 10_state.md sections 2, 4). -/
def Obligations.StepKeepsRegistersLawful : Prop :=
  ∀ s r : State, registersLawful s → step s = .next r → registersLawful r

/-- Every step leaves no outcome or one lawful outcome in `OUT` (spec 10_state.md section 7). -/
def Obligations.StepKeepsOutcomeLawful : Prop :=
  ∀ s r : State, outcomeLawful s → step s = .next r → outcomeLawful r

/-- Every step leaves the peripherals quiet, and an engine that has not faulted at rest (spec 46_sequencer.md sections
3, 4). -/
def Obligations.StepKeepsTheEngineAtRest : Prop :=
  ∀ s r : State, atRest s → step s = .next r → atRest r

/-- Every step keeps every `DUR_W`-bit quantity within `DUR_W` bits while the buffers are within capacity, so the model's
naturals are numbers the hardware's registers hold (spec 00_scope.md section 4, 92_eei_decisions.md D3; what
the host writes is a list of actions that fit, the model's choice, assumption log 1, 17). -/
def Obligations.StepKeepsWidths : Prop :=
  ∀ s r : State, withinCapacity s → widthsLawful s → step s = .next r → widthsLawful r

/-- The machine after reset meets every invariant above (on the example engine, the model's choice: assumption log 4). -/
def Obligations.ResetMeetsTheInvariants : Prop :=
  withinCapacity State.reset ∧ registersLawful State.reset ∧ outcomeLawful State.reset ∧ atRest State.reset ∧
  widthsLawful State.reset ∧ engineWellFormed State.reset.par = true

/-- No operation writes the engine parameters or the Protocol Profile table (spec 10_state.md section 5: R15), or takes
a host action or a command list that is still to come (the model's choice, assumption log 1, 3). -/
def Obligations.OperationsKeepConfiguration : Prop :=
  ∀ (i : Instr) (s r : State), exec i s = .next r →
    r.par = s.par ∧ r.profiles = s.profiles ∧ r.pending = s.pending ∧ r.cmdList = s.cmdList
end

