-- ==== Sys2Proof/Laws/State.lean ====
section
/-! SUPPORT. What each state update does to each field of State: one lemma per field per update, true by definition, for
simp. Made from a table of the updates. -/

namespace Sys2Proof.Machine

/- ### takeFault -/

@[simp] theorem takeFault_par (c : FaultCause) (s : State) : (takeFault c s).par = s.par := rfl
@[simp] theorem takeFault_profiles (c : FaultCause) (s : State) : (takeFault c s).profiles = s.profiles := rfl
@[simp] theorem takeFault_pd (c : FaultCause) (s : State) : (takeFault c s).pd = s.pd := rfl
@[simp] theorem takeFault_dt (c : FaultCause) (s : State) : (takeFault c s).dt = s.dt := rfl
@[simp] theorem takeFault_rc (c : FaultCause) (s : State) : (takeFault c s).rc = s.rc := rfl
@[simp] theorem takeFault_tq (c : FaultCause) (s : State) : (takeFault c s).tq = s.tq := rfl
@[simp] theorem takeFault_frm (c : FaultCause) (s : State) : (takeFault c s).frm = s.frm := rfl
@[simp] theorem takeFault_seq (c : FaultCause) (s : State) : (takeFault c s).seq = s.seq := rfl
@[simp] theorem takeFault_capFull (c : FaultCause) (s : State) : (takeFault c s).capFull = s.capFull := rfl
@[simp] theorem takeFault_fault (c : FaultCause) (s : State) : (takeFault c s).fault = ⟨true, faultCode c⟩ := rfl
@[simp] theorem takeFault_cfg (c : FaultCause) (s : State) : (takeFault c s).cfg = s.cfg := rfl
@[simp] theorem takeFault_out (c : FaultCause) (s : State) : (takeFault c s).out = s.out := rfl
@[simp] theorem takeFault_conv (c : FaultCause) (s : State) : (takeFault c s).conv = s.conv := rfl
@[simp] theorem takeFault_op (c : FaultCause) (s : State) : (takeFault c s).op = s.op := rfl
@[simp] theorem takeFault_res (c : FaultCause) (s : State) : (takeFault c s).res = s.res := rfl
@[simp] theorem takeFault_cap (c : FaultCause) (s : State) : (takeFault c s).cap = s.cap := rfl
@[simp] theorem takeFault_sym (c : FaultCause) (s : State) : (takeFault c s).sym = s.sym := rfl
@[simp] theorem takeFault_pay (c : FaultCause) (s : State) : (takeFault c s).pay = s.pay := rfl
@[simp] theorem takeFault_rep (c : FaultCause) (s : State) : (takeFault c s).rep = s.rep := rfl
@[simp] theorem takeFault_emit (c : FaultCause) (s : State) : (takeFault c s).emit = s.emit := rfl
@[simp] theorem takeFault_log (c : FaultCause) (s : State) : (takeFault c s).log = s.log := rfl
@[simp] theorem takeFault_txb (c : FaultCause) (s : State) : (takeFault c s).txb = s.txb := rfl
@[simp] theorem takeFault_trace (c : FaultCause) (s : State) : (takeFault c s).trace = s.trace := rfl
@[simp] theorem takeFault_capDev (c : FaultCause) (s : State) : (takeFault c s).capDev = s.capDev := rfl
@[simp] theorem takeFault_port (c : FaultCause) (s : State) : (takeFault c s).port = s.port := rfl
@[simp] theorem takeFault_pending (c : FaultCause) (s : State) : (takeFault c s).pending = s.pending := rfl
@[simp] theorem takeFault_arrivals (c : FaultCause) (s : State) : (takeFault c s).arrivals = s.arrivals := rfl
@[simp] theorem takeFault_cmdList (c : FaultCause) (s : State) : (takeFault c s).cmdList = s.cmdList := rfl
@[simp] theorem takeFault_results (c : FaultCause) (s : State) : (takeFault c s).results = s.results := rfl
@[simp] theorem takeFault_freeCtr (c : FaultCause) (s : State) : (takeFault c s).freeCtr = s.freeCtr := rfl

/- ### hardReset -/

@[simp] theorem hardReset_par (s : State) : (hardReset s).par = s.par := rfl
@[simp] theorem hardReset_profiles (s : State) : (hardReset s).profiles = s.profiles := rfl
@[simp] theorem hardReset_pd (s : State) : (hardReset s).pd = ⟨0, 0, 0, false⟩ := rfl
@[simp] theorem hardReset_dt (s : State) : (hardReset s).dt = ⟨0, 0, 0, false⟩ := rfl
@[simp] theorem hardReset_rc (s : State) : (hardReset s).rc = ⟨s.par.resultSeed, s.par.maskSeed.setWidth 17, 0⟩ := rfl
@[simp] theorem hardReset_tq (s : State) : (hardReset s).tq = ⟨0, 0⟩ := rfl
@[simp] theorem hardReset_frm (s : State) : (hardReset s).frm = .clear := rfl
@[simp] theorem hardReset_seq (s : State) : (hardReset s).seq = ⟨.idle, 0⟩ := rfl
@[simp] theorem hardReset_capFull (s : State) : (hardReset s).capFull = false := rfl
@[simp] theorem hardReset_fault (s : State) : (hardReset s).fault = ⟨false, 0⟩ := rfl
@[simp] theorem hardReset_cfg (s : State) : (hardReset s).cfg = ⟨0, false, false⟩ := rfl
@[simp] theorem hardReset_out (s : State) : (hardReset s).out = .clear := rfl
@[simp] theorem hardReset_conv (s : State) : (hardReset s).conv = ⟨0, false⟩ := rfl
@[simp] theorem hardReset_op (s : State) : (hardReset s).op = ⟨0, 0⟩ := rfl
@[simp] theorem hardReset_res (s : State) : (hardReset s).res = ⟨false, 0⟩ := rfl
@[simp] theorem hardReset_cap (s : State) : (hardReset s).cap = [] := rfl
@[simp] theorem hardReset_sym (s : State) : (hardReset s).sym = [] := rfl
@[simp] theorem hardReset_pay (s : State) : (hardReset s).pay = [] := rfl
@[simp] theorem hardReset_rep (s : State) : (hardReset s).rep = [] := rfl
@[simp] theorem hardReset_emit (s : State) : (hardReset s).emit = [] := rfl
@[simp] theorem hardReset_log (s : State) : (hardReset s).log = [] := rfl
@[simp] theorem hardReset_txb (s : State) : (hardReset s).txb = [] := rfl
@[simp] theorem hardReset_trace (s : State) : (hardReset s).trace = [] := rfl
@[simp] theorem hardReset_capDev (s : State) : (hardReset s).capDev = ⟨true, []⟩ := rfl
@[simp] theorem hardReset_port (s : State) : (hardReset s).port = ⟨true, false, s.port.sent⟩ := rfl
@[simp] theorem hardReset_pending (s : State) : (hardReset s).pending = s.pending := rfl
@[simp] theorem hardReset_arrivals (s : State) : (hardReset s).arrivals = s.arrivals := rfl
@[simp] theorem hardReset_cmdList (s : State) : (hardReset s).cmdList = s.cmdList := rfl
@[simp] theorem hardReset_results (s : State) : (hardReset s).results = [] := rfl
@[simp] theorem hardReset_freeCtr (s : State) : (hardReset s).freeCtr = s.freeCtr := rfl

/- ### stepReset -/

@[simp] theorem stepReset_par (s : State) : (stepReset s).par = s.par := rfl
@[simp] theorem stepReset_profiles (s : State) : (stepReset s).profiles = s.profiles := rfl
@[simp] theorem stepReset_pd (s : State) : (stepReset s).pd = ⟨0, 0, 0, false⟩ := rfl
@[simp] theorem stepReset_dt (s : State) : (stepReset s).dt = ⟨0, 0, 0, false⟩ := rfl
@[simp] theorem stepReset_rc (s : State) : (stepReset s).rc = s.rc := rfl
@[simp] theorem stepReset_tq (s : State) : (stepReset s).tq = s.tq := rfl
@[simp] theorem stepReset_frm (s : State) : (stepReset s).frm = .clear := rfl
@[simp] theorem stepReset_seq (s : State) : (stepReset s).seq = ⟨.idle, s.seq.step⟩ := rfl
@[simp] theorem stepReset_capFull (s : State) : (stepReset s).capFull = false := rfl
@[simp] theorem stepReset_fault (s : State) : (stepReset s).fault = s.fault := rfl
@[simp] theorem stepReset_cfg (s : State) : (stepReset s).cfg = s.cfg := rfl
@[simp] theorem stepReset_out (s : State) : (stepReset s).out = .clear := rfl
@[simp] theorem stepReset_conv (s : State) : (stepReset s).conv = s.conv := rfl
@[simp] theorem stepReset_op (s : State) : (stepReset s).op = s.op := rfl
@[simp] theorem stepReset_res (s : State) : (stepReset s).res = s.res := rfl
@[simp] theorem stepReset_cap (s : State) : (stepReset s).cap = [] := rfl
@[simp] theorem stepReset_sym (s : State) : (stepReset s).sym = [] := rfl
@[simp] theorem stepReset_pay (s : State) : (stepReset s).pay = [] := rfl
@[simp] theorem stepReset_rep (s : State) : (stepReset s).rep = [] := rfl
@[simp] theorem stepReset_emit (s : State) : (stepReset s).emit = [] := rfl
@[simp] theorem stepReset_log (s : State) : (stepReset s).log = [] := rfl
@[simp] theorem stepReset_txb (s : State) : (stepReset s).txb = s.txb := rfl
@[simp] theorem stepReset_trace (s : State) : (stepReset s).trace = [] := rfl
@[simp] theorem stepReset_capDev (s : State) : (stepReset s).capDev = s.capDev := rfl
@[simp] theorem stepReset_port (s : State) : (stepReset s).port = s.port := rfl
@[simp] theorem stepReset_pending (s : State) : (stepReset s).pending = s.pending := rfl
@[simp] theorem stepReset_arrivals (s : State) : (stepReset s).arrivals = s.arrivals := rfl
@[simp] theorem stepReset_cmdList (s : State) : (stepReset s).cmdList = s.cmdList := rfl
@[simp] theorem stepReset_results (s : State) : (stepReset s).results = s.results := rfl
@[simp] theorem stepReset_freeCtr (s : State) : (stepReset s).freeCtr = s.freeCtr := rfl

/- ### startStep -/

@[simp] theorem startStep_par (t : Bool) (s : State) : (startStep t s).par = s.par := rfl
@[simp] theorem startStep_profiles (t : Bool) (s : State) : (startStep t s).profiles = s.profiles := rfl
@[simp] theorem startStep_pd (t : Bool) (s : State) : (startStep t s).pd = ⟨0, 0, 0, false⟩ := rfl
@[simp] theorem startStep_dt (t : Bool) (s : State) : (startStep t s).dt = ⟨0, 0, 0, false⟩ := rfl
@[simp] theorem startStep_rc (t : Bool) (s : State) : (startStep t s).rc = s.rc := rfl
@[simp] theorem startStep_tq (t : Bool) (s : State) : (startStep t s).tq = s.tq := rfl
@[simp] theorem startStep_frm (t : Bool) (s : State) : (startStep t s).frm = .clear := rfl
@[simp] theorem startStep_seq (t : Bool) (s : State) : (startStep t s).seq = ⟨.idle, s.seq.step⟩ := rfl
@[simp] theorem startStep_capFull (t : Bool) (s : State) : (startStep t s).capFull = false := rfl
@[simp] theorem startStep_fault (t : Bool) (s : State) : (startStep t s).fault = s.fault := rfl
@[simp] theorem startStep_cfg (t : Bool) (s : State) : (startStep t s).cfg = { s.cfg with trace := t } := rfl
@[simp] theorem startStep_out (t : Bool) (s : State) : (startStep t s).out = .clear := rfl
@[simp] theorem startStep_conv (t : Bool) (s : State) : (startStep t s).conv = s.conv := rfl
@[simp] theorem startStep_op (t : Bool) (s : State) : (startStep t s).op = s.op := rfl
@[simp] theorem startStep_res (t : Bool) (s : State) : (startStep t s).res = s.res := rfl
@[simp] theorem startStep_cap (t : Bool) (s : State) : (startStep t s).cap = [] := rfl
@[simp] theorem startStep_sym (t : Bool) (s : State) : (startStep t s).sym = [] := rfl
@[simp] theorem startStep_pay (t : Bool) (s : State) : (startStep t s).pay = [] := rfl
@[simp] theorem startStep_rep (t : Bool) (s : State) : (startStep t s).rep = [] := rfl
@[simp] theorem startStep_emit (t : Bool) (s : State) : (startStep t s).emit = [] := rfl
@[simp] theorem startStep_log (t : Bool) (s : State) : (startStep t s).log = [] := rfl
@[simp] theorem startStep_txb (t : Bool) (s : State) : (startStep t s).txb = s.txb := rfl
@[simp] theorem startStep_trace (t : Bool) (s : State) : (startStep t s).trace = [] := rfl
@[simp] theorem startStep_capDev (t : Bool) (s : State) : (startStep t s).capDev = s.capDev := rfl
@[simp] theorem startStep_port (t : Bool) (s : State) : (startStep t s).port = s.port := rfl
@[simp] theorem startStep_pending (t : Bool) (s : State) : (startStep t s).pending = s.pending := rfl
@[simp] theorem startStep_arrivals (t : Bool) (s : State) : (startStep t s).arrivals = s.arrivals := rfl
@[simp] theorem startStep_cmdList (t : Bool) (s : State) : (startStep t s).cmdList = s.cmdList := rfl
@[simp] theorem startStep_results (t : Bool) (s : State) : (startStep t s).results = s.results := rfl
@[simp] theorem startStep_freeCtr (t : Bool) (s : State) : (startStep t s).freeCtr = s.freeCtr := rfl

/- ### frmStore -/

@[simp] theorem frmStore_par (w : FrmWork) (s : State) : (frmStore w s).par = s.par := rfl
@[simp] theorem frmStore_profiles (w : FrmWork) (s : State) : (frmStore w s).profiles = s.profiles := rfl
@[simp] theorem frmStore_pd (w : FrmWork) (s : State) : (frmStore w s).pd = s.pd := rfl
@[simp] theorem frmStore_dt (w : FrmWork) (s : State) : (frmStore w s).dt = s.dt := rfl
@[simp] theorem frmStore_rc (w : FrmWork) (s : State) : (frmStore w s).rc = s.rc := rfl
@[simp] theorem frmStore_tq (w : FrmWork) (s : State) : (frmStore w s).tq = s.tq := rfl
@[simp] theorem frmStore_frm (w : FrmWork) (s : State) : (frmStore w s).frm = w.regs := rfl
@[simp] theorem frmStore_seq (w : FrmWork) (s : State) : (frmStore w s).seq = s.seq := rfl
@[simp] theorem frmStore_capFull (w : FrmWork) (s : State) : (frmStore w s).capFull = s.capFull := rfl
@[simp] theorem frmStore_fault (w : FrmWork) (s : State) : (frmStore w s).fault = s.fault := rfl
@[simp] theorem frmStore_cfg (w : FrmWork) (s : State) : (frmStore w s).cfg = s.cfg := rfl
@[simp] theorem frmStore_out (w : FrmWork) (s : State) : (frmStore w s).out = s.out := rfl
@[simp] theorem frmStore_conv (w : FrmWork) (s : State) : (frmStore w s).conv = s.conv := rfl
@[simp] theorem frmStore_op (w : FrmWork) (s : State) : (frmStore w s).op = s.op := rfl
@[simp] theorem frmStore_res (w : FrmWork) (s : State) : (frmStore w s).res = s.res := rfl
@[simp] theorem frmStore_cap (w : FrmWork) (s : State) : (frmStore w s).cap = s.cap := rfl
@[simp] theorem frmStore_sym (w : FrmWork) (s : State) : (frmStore w s).sym = s.sym := rfl
@[simp] theorem frmStore_pay (w : FrmWork) (s : State) : (frmStore w s).pay = w.pay := rfl
@[simp] theorem frmStore_rep (w : FrmWork) (s : State) : (frmStore w s).rep = w.rep := rfl
@[simp] theorem frmStore_emit (w : FrmWork) (s : State) : (frmStore w s).emit = s.emit := rfl
@[simp] theorem frmStore_log (w : FrmWork) (s : State) : (frmStore w s).log = s.log := rfl
@[simp] theorem frmStore_txb (w : FrmWork) (s : State) : (frmStore w s).txb = s.txb := rfl
@[simp] theorem frmStore_trace (w : FrmWork) (s : State) : (frmStore w s).trace = s.trace := rfl
@[simp] theorem frmStore_capDev (w : FrmWork) (s : State) : (frmStore w s).capDev = s.capDev := rfl
@[simp] theorem frmStore_port (w : FrmWork) (s : State) : (frmStore w s).port = s.port := rfl
@[simp] theorem frmStore_pending (w : FrmWork) (s : State) : (frmStore w s).pending = s.pending := rfl
@[simp] theorem frmStore_arrivals (w : FrmWork) (s : State) : (frmStore w s).arrivals = s.arrivals := rfl
@[simp] theorem frmStore_cmdList (w : FrmWork) (s : State) : (frmStore w s).cmdList = s.cmdList := rfl
@[simp] theorem frmStore_results (w : FrmWork) (s : State) : (frmStore w s).results = s.results := rfl
@[simp] theorem frmStore_freeCtr (w : FrmWork) (s : State) : (frmStore w s).freeCtr = s.freeCtr := rfl

/- ### noSteps -/

@[simp] theorem noSteps_par (s : State) : (noSteps s).par = s.par := rfl
@[simp] theorem noSteps_profiles (s : State) : (noSteps s).profiles = s.profiles := rfl
@[simp] theorem noSteps_pd (s : State) : (noSteps s).pd = s.pd := rfl
@[simp] theorem noSteps_dt (s : State) : (noSteps s).dt = s.dt := rfl
@[simp] theorem noSteps_rc (s : State) : (noSteps s).rc = s.rc := rfl
@[simp] theorem noSteps_tq (s : State) : (noSteps s).tq = s.tq := rfl
@[simp] theorem noSteps_frm (s : State) : (noSteps s).frm = s.frm := rfl
@[simp] theorem noSteps_seq (s : State) : (noSteps s).seq = s.seq := rfl
@[simp] theorem noSteps_capFull (s : State) : (noSteps s).capFull = s.capFull := rfl
@[simp] theorem noSteps_fault (s : State) : (noSteps s).fault = s.fault := rfl
@[simp] theorem noSteps_cfg (s : State) : (noSteps s).cfg = s.cfg := rfl
@[simp] theorem noSteps_out (s : State) : (noSteps s).out = .clear := rfl
@[simp] theorem noSteps_conv (s : State) : (noSteps s).conv = s.conv := rfl
@[simp] theorem noSteps_op (s : State) : (noSteps s).op = s.op := rfl
@[simp] theorem noSteps_res (s : State) : (noSteps s).res = s.res := rfl
@[simp] theorem noSteps_cap (s : State) : (noSteps s).cap = s.cap := rfl
@[simp] theorem noSteps_sym (s : State) : (noSteps s).sym = s.sym := rfl
@[simp] theorem noSteps_pay (s : State) : (noSteps s).pay = s.pay := rfl
@[simp] theorem noSteps_rep (s : State) : (noSteps s).rep = s.rep := rfl
@[simp] theorem noSteps_emit (s : State) : (noSteps s).emit = s.emit := rfl
@[simp] theorem noSteps_log (s : State) : (noSteps s).log = s.log := rfl
@[simp] theorem noSteps_txb (s : State) : (noSteps s).txb = s.txb := rfl
@[simp] theorem noSteps_trace (s : State) : (noSteps s).trace = s.trace := rfl
@[simp] theorem noSteps_capDev (s : State) : (noSteps s).capDev = s.capDev := rfl
@[simp] theorem noSteps_port (s : State) : (noSteps s).port = s.port := rfl
@[simp] theorem noSteps_pending (s : State) : (noSteps s).pending = s.pending := rfl
@[simp] theorem noSteps_arrivals (s : State) : (noSteps s).arrivals = s.arrivals := rfl
@[simp] theorem noSteps_cmdList (s : State) : (noSteps s).cmdList = s.cmdList := rfl
@[simp] theorem noSteps_results (s : State) : (noSteps s).results = s.results := rfl
@[simp] theorem noSteps_freeCtr (s : State) : (noSteps s).freeCtr = s.freeCtr := rfl

/- ### emitAll -/

@[simp] theorem emitAll_par (s : State) : (emitAll s).par = s.par := rfl
@[simp] theorem emitAll_profiles (s : State) : (emitAll s).profiles = s.profiles := rfl
@[simp] theorem emitAll_pd (s : State) : (emitAll s).pd = s.pd := rfl
@[simp] theorem emitAll_dt (s : State) : (emitAll s).dt = s.dt := rfl
@[simp] theorem emitAll_rc (s : State) : (emitAll s).rc = s.rc := rfl
@[simp] theorem emitAll_tq (s : State) : (emitAll s).tq = s.tq := rfl
@[simp] theorem emitAll_frm (s : State) : (emitAll s).frm = s.frm := rfl
@[simp] theorem emitAll_seq (s : State) : (emitAll s).seq = s.seq := rfl
@[simp] theorem emitAll_capFull (s : State) : (emitAll s).capFull = s.capFull := rfl
@[simp] theorem emitAll_fault (s : State) : (emitAll s).fault = s.fault := rfl
@[simp] theorem emitAll_cfg (s : State) : (emitAll s).cfg = s.cfg := rfl
@[simp] theorem emitAll_out (s : State) : (emitAll s).out = s.out := rfl
@[simp] theorem emitAll_conv (s : State) : (emitAll s).conv = s.conv := rfl
@[simp] theorem emitAll_op (s : State) : (emitAll s).op = s.op := rfl
@[simp] theorem emitAll_res (s : State) : (emitAll s).res = s.res := rfl
@[simp] theorem emitAll_cap (s : State) : (emitAll s).cap = s.cap := rfl
@[simp] theorem emitAll_sym (s : State) : (emitAll s).sym = s.sym := rfl
@[simp] theorem emitAll_pay (s : State) : (emitAll s).pay = s.pay := rfl
@[simp] theorem emitAll_rep (s : State) : (emitAll s).rep = s.rep := rfl
@[simp] theorem emitAll_emit (s : State) : (emitAll s).emit = s.emit := rfl
@[simp] theorem emitAll_log (s : State) : (emitAll s).log = s.log := rfl
@[simp] theorem emitAll_txb (s : State) : (emitAll s).txb = s.txb := rfl
@[simp] theorem emitAll_trace (s : State) : (emitAll s).trace = s.trace := rfl
@[simp] theorem emitAll_capDev (s : State) : (emitAll s).capDev = s.capDev := rfl
@[simp] theorem emitAll_port (s : State) : (emitAll s).port = ⟨true, false, s.port.sent ++ [s.emit]⟩ := rfl
@[simp] theorem emitAll_pending (s : State) : (emitAll s).pending = s.pending := rfl
@[simp] theorem emitAll_arrivals (s : State) : (emitAll s).arrivals = s.arrivals := rfl
@[simp] theorem emitAll_cmdList (s : State) : (emitAll s).cmdList = s.cmdList := rfl
@[simp] theorem emitAll_results (s : State) : (emitAll s).results = s.results := rfl
@[simp] theorem emitAll_freeCtr (s : State) : (emitAll s).freeCtr = s.freeCtr := rfl

/- ### freeCoder -/

@[simp] theorem freeCoder_par (s : State) : (freeCoder s).par = s.par := rfl
@[simp] theorem freeCoder_profiles (s : State) : (freeCoder s).profiles = s.profiles := rfl
@[simp] theorem freeCoder_pd (s : State) : (freeCoder s).pd = s.pd := rfl
@[simp] theorem freeCoder_dt (s : State) : (freeCoder s).dt = s.dt := rfl
@[simp] theorem freeCoder_rc (s : State) :
    (freeCoder s).rc = ⟨Config.freeRcResult s.freeCtr,
      (Config.freeRcMask s.freeCtr).setWidth 17, Config.freeRcData s.freeCtr⟩ := rfl
@[simp] theorem freeCoder_tq (s : State) : (freeCoder s).tq = s.tq := rfl
@[simp] theorem freeCoder_frm (s : State) : (freeCoder s).frm = s.frm := rfl
@[simp] theorem freeCoder_seq (s : State) : (freeCoder s).seq = s.seq := rfl
@[simp] theorem freeCoder_capFull (s : State) : (freeCoder s).capFull = s.capFull := rfl
@[simp] theorem freeCoder_fault (s : State) : (freeCoder s).fault = s.fault := rfl
@[simp] theorem freeCoder_cfg (s : State) : (freeCoder s).cfg = s.cfg := rfl
@[simp] theorem freeCoder_out (s : State) : (freeCoder s).out = s.out := rfl
@[simp] theorem freeCoder_conv (s : State) : (freeCoder s).conv = s.conv := rfl
@[simp] theorem freeCoder_op (s : State) : (freeCoder s).op = s.op := rfl
@[simp] theorem freeCoder_res (s : State) : (freeCoder s).res = s.res := rfl
@[simp] theorem freeCoder_cap (s : State) : (freeCoder s).cap = s.cap := rfl
@[simp] theorem freeCoder_sym (s : State) : (freeCoder s).sym = s.sym := rfl
@[simp] theorem freeCoder_pay (s : State) : (freeCoder s).pay = s.pay := rfl
@[simp] theorem freeCoder_rep (s : State) : (freeCoder s).rep = s.rep := rfl
@[simp] theorem freeCoder_emit (s : State) : (freeCoder s).emit = s.emit := rfl
@[simp] theorem freeCoder_log (s : State) : (freeCoder s).log = s.log := rfl
@[simp] theorem freeCoder_txb (s : State) : (freeCoder s).txb = s.txb := rfl
@[simp] theorem freeCoder_trace (s : State) : (freeCoder s).trace = s.trace := rfl
@[simp] theorem freeCoder_capDev (s : State) : (freeCoder s).capDev = s.capDev := rfl
@[simp] theorem freeCoder_port (s : State) : (freeCoder s).port = s.port := rfl
@[simp] theorem freeCoder_pending (s : State) : (freeCoder s).pending = s.pending := rfl
@[simp] theorem freeCoder_arrivals (s : State) : (freeCoder s).arrivals = s.arrivals := rfl
@[simp] theorem freeCoder_cmdList (s : State) : (freeCoder s).cmdList = s.cmdList := rfl
@[simp] theorem freeCoder_results (s : State) : (freeCoder s).results = s.results := rfl
@[simp] theorem freeCoder_freeCtr (s : State) : (freeCoder s).freeCtr = s.freeCtr + 1 := rfl

/- ### pdStart -/

@[simp] theorem pdStart_par (s : State) : (pdStart s).par = s.par := rfl
@[simp] theorem pdStart_profiles (s : State) : (pdStart s).profiles = s.profiles := rfl
@[simp] theorem pdStart_pd (s : State) : (pdStart s).pd = ⟨0, 0, 0, false⟩ := rfl
@[simp] theorem pdStart_dt (s : State) : (pdStart s).dt = s.dt := rfl
@[simp] theorem pdStart_rc (s : State) : (pdStart s).rc = s.rc := rfl
@[simp] theorem pdStart_tq (s : State) : (pdStart s).tq = s.tq := rfl
@[simp] theorem pdStart_frm (s : State) : (pdStart s).frm = s.frm := rfl
@[simp] theorem pdStart_seq (s : State) : (pdStart s).seq = s.seq := rfl
@[simp] theorem pdStart_capFull (s : State) : (pdStart s).capFull = s.capFull := rfl
@[simp] theorem pdStart_fault (s : State) : (pdStart s).fault = s.fault := rfl
@[simp] theorem pdStart_cfg (s : State) : (pdStart s).cfg = s.cfg := rfl
@[simp] theorem pdStart_out (s : State) : (pdStart s).out = .clear := rfl
@[simp] theorem pdStart_conv (s : State) : (pdStart s).conv = s.conv := rfl
@[simp] theorem pdStart_op (s : State) : (pdStart s).op = s.op := rfl
@[simp] theorem pdStart_res (s : State) : (pdStart s).res = s.res := rfl
@[simp] theorem pdStart_cap (s : State) : (pdStart s).cap = s.cap := rfl
@[simp] theorem pdStart_sym (s : State) : (pdStart s).sym = [] := rfl
@[simp] theorem pdStart_pay (s : State) : (pdStart s).pay = s.pay := rfl
@[simp] theorem pdStart_rep (s : State) : (pdStart s).rep = s.rep := rfl
@[simp] theorem pdStart_emit (s : State) : (pdStart s).emit = s.emit := rfl
@[simp] theorem pdStart_log (s : State) : (pdStart s).log = s.log := rfl
@[simp] theorem pdStart_txb (s : State) : (pdStart s).txb = s.txb := rfl
@[simp] theorem pdStart_trace (s : State) : (pdStart s).trace = s.trace := rfl
@[simp] theorem pdStart_capDev (s : State) : (pdStart s).capDev = s.capDev := rfl
@[simp] theorem pdStart_port (s : State) : (pdStart s).port = s.port := rfl
@[simp] theorem pdStart_pending (s : State) : (pdStart s).pending = s.pending := rfl
@[simp] theorem pdStart_arrivals (s : State) : (pdStart s).arrivals = s.arrivals := rfl
@[simp] theorem pdStart_cmdList (s : State) : (pdStart s).cmdList = s.cmdList := rfl
@[simp] theorem pdStart_results (s : State) : (pdStart s).results = s.results := rfl
@[simp] theorem pdStart_freeCtr (s : State) : (pdStart s).freeCtr = s.freeCtr := rfl

/- ### pdBad -/

@[simp] theorem pdBad_par (r : BadReason) (p v : Nat) (s : State) : (pdBad r p v s).par = s.par := rfl
@[simp] theorem pdBad_profiles (r : BadReason) (p v : Nat) (s : State) : (pdBad r p v s).profiles = s.profiles := rfl
@[simp] theorem pdBad_pd (r : BadReason) (p v : Nat) (s : State) : (pdBad r p v s).pd = s.pd := rfl
@[simp] theorem pdBad_dt (r : BadReason) (p v : Nat) (s : State) : (pdBad r p v s).dt = s.dt := rfl
@[simp] theorem pdBad_rc (r : BadReason) (p v : Nat) (s : State) : (pdBad r p v s).rc = s.rc := rfl
@[simp] theorem pdBad_tq (r : BadReason) (p v : Nat) (s : State) : (pdBad r p v s).tq = s.tq := rfl
@[simp] theorem pdBad_frm (r : BadReason) (p v : Nat) (s : State) : (pdBad r p v s).frm = s.frm := rfl
@[simp] theorem pdBad_seq (r : BadReason) (p v : Nat) (s : State) : (pdBad r p v s).seq = s.seq := rfl
@[simp] theorem pdBad_capFull (r : BadReason) (p v : Nat) (s : State) : (pdBad r p v s).capFull = s.capFull := rfl
@[simp] theorem pdBad_fault (r : BadReason) (p v : Nat) (s : State) : (pdBad r p v s).fault = s.fault := rfl
@[simp] theorem pdBad_cfg (r : BadReason) (p v : Nat) (s : State) : (pdBad r p v s).cfg = s.cfg := rfl
@[simp] theorem pdBad_out (r : BadReason) (p v : Nat) (s : State) : (pdBad r p v s).out = outBad r p v := rfl
@[simp] theorem pdBad_conv (r : BadReason) (p v : Nat) (s : State) : (pdBad r p v s).conv = s.conv := rfl
@[simp] theorem pdBad_op (r : BadReason) (p v : Nat) (s : State) : (pdBad r p v s).op = s.op := rfl
@[simp] theorem pdBad_res (r : BadReason) (p v : Nat) (s : State) : (pdBad r p v s).res = s.res := rfl
@[simp] theorem pdBad_cap (r : BadReason) (p v : Nat) (s : State) : (pdBad r p v s).cap = s.cap := rfl
@[simp] theorem pdBad_sym (r : BadReason) (p v : Nat) (s : State) : (pdBad r p v s).sym = [] := rfl
@[simp] theorem pdBad_pay (r : BadReason) (p v : Nat) (s : State) : (pdBad r p v s).pay = s.pay := rfl
@[simp] theorem pdBad_rep (r : BadReason) (p v : Nat) (s : State) : (pdBad r p v s).rep = s.rep := rfl
@[simp] theorem pdBad_emit (r : BadReason) (p v : Nat) (s : State) : (pdBad r p v s).emit = s.emit := rfl
@[simp] theorem pdBad_log (r : BadReason) (p v : Nat) (s : State) : (pdBad r p v s).log = s.log := rfl
@[simp] theorem pdBad_txb (r : BadReason) (p v : Nat) (s : State) : (pdBad r p v s).txb = s.txb := rfl
@[simp] theorem pdBad_trace (r : BadReason) (p v : Nat) (s : State) : (pdBad r p v s).trace = s.trace := rfl
@[simp] theorem pdBad_capDev (r : BadReason) (p v : Nat) (s : State) : (pdBad r p v s).capDev = s.capDev := rfl
@[simp] theorem pdBad_port (r : BadReason) (p v : Nat) (s : State) : (pdBad r p v s).port = s.port := rfl
@[simp] theorem pdBad_pending (r : BadReason) (p v : Nat) (s : State) : (pdBad r p v s).pending = s.pending := rfl
@[simp] theorem pdBad_arrivals (r : BadReason) (p v : Nat) (s : State) : (pdBad r p v s).arrivals = s.arrivals := rfl
@[simp] theorem pdBad_cmdList (r : BadReason) (p v : Nat) (s : State) : (pdBad r p v s).cmdList = s.cmdList := rfl
@[simp] theorem pdBad_results (r : BadReason) (p v : Nat) (s : State) : (pdBad r p v s).results = s.results := rfl
@[simp] theorem pdBad_freeCtr (r : BadReason) (p v : Nat) (s : State) : (pdBad r p v s).freeCtr = s.freeCtr := rfl

/- ### dtStart -/

@[simp] theorem dtStart_par (t : Bool) (s : State) : (dtStart t s).par = s.par := rfl
@[simp] theorem dtStart_profiles (t : Bool) (s : State) : (dtStart t s).profiles = s.profiles := rfl
@[simp] theorem dtStart_pd (t : Bool) (s : State) : (dtStart t s).pd = s.pd := rfl
@[simp] theorem dtStart_dt (t : Bool) (s : State) : (dtStart t s).dt = ⟨0, 0, 0, false⟩ := rfl
@[simp] theorem dtStart_rc (t : Bool) (s : State) : (dtStart t s).rc = s.rc := rfl
@[simp] theorem dtStart_tq (t : Bool) (s : State) : (dtStart t s).tq = s.tq := rfl
@[simp] theorem dtStart_frm (t : Bool) (s : State) : (dtStart t s).frm = s.frm := rfl
@[simp] theorem dtStart_seq (t : Bool) (s : State) : (dtStart t s).seq = s.seq := rfl
@[simp] theorem dtStart_capFull (t : Bool) (s : State) : (dtStart t s).capFull = s.capFull := rfl
@[simp] theorem dtStart_fault (t : Bool) (s : State) : (dtStart t s).fault = s.fault := rfl
@[simp] theorem dtStart_cfg (t : Bool) (s : State) : (dtStart t s).cfg = { s.cfg with trace := t } := rfl
@[simp] theorem dtStart_out (t : Bool) (s : State) : (dtStart t s).out = s.out := rfl
@[simp] theorem dtStart_conv (t : Bool) (s : State) : (dtStart t s).conv = s.conv := rfl
@[simp] theorem dtStart_op (t : Bool) (s : State) : (dtStart t s).op = s.op := rfl
@[simp] theorem dtStart_res (t : Bool) (s : State) : (dtStart t s).res = s.res := rfl
@[simp] theorem dtStart_cap (t : Bool) (s : State) : (dtStart t s).cap = s.cap := rfl
@[simp] theorem dtStart_sym (t : Bool) (s : State) : (dtStart t s).sym = [] := rfl
@[simp] theorem dtStart_pay (t : Bool) (s : State) : (dtStart t s).pay = s.pay := rfl
@[simp] theorem dtStart_rep (t : Bool) (s : State) : (dtStart t s).rep = s.rep := rfl
@[simp] theorem dtStart_emit (t : Bool) (s : State) : (dtStart t s).emit = s.emit := rfl
@[simp] theorem dtStart_log (t : Bool) (s : State) : (dtStart t s).log = s.log := rfl
@[simp] theorem dtStart_txb (t : Bool) (s : State) : (dtStart t s).txb = s.txb := rfl
@[simp] theorem dtStart_trace (t : Bool) (s : State) : (dtStart t s).trace = [] := rfl
@[simp] theorem dtStart_capDev (t : Bool) (s : State) : (dtStart t s).capDev = s.capDev := rfl
@[simp] theorem dtStart_port (t : Bool) (s : State) : (dtStart t s).port = s.port := rfl
@[simp] theorem dtStart_pending (t : Bool) (s : State) : (dtStart t s).pending = s.pending := rfl
@[simp] theorem dtStart_arrivals (t : Bool) (s : State) : (dtStart t s).arrivals = s.arrivals := rfl
@[simp] theorem dtStart_cmdList (t : Bool) (s : State) : (dtStart t s).cmdList = s.cmdList := rfl
@[simp] theorem dtStart_results (t : Bool) (s : State) : (dtStart t s).results = s.results := rfl
@[simp] theorem dtStart_freeCtr (t : Bool) (s : State) : (dtStart t s).freeCtr = s.freeCtr := rfl

/- ### dtStore -/

@[simp] theorem dtStore_par (w : DtWork) (s : State) : (dtStore w s).par = s.par := rfl
@[simp] theorem dtStore_profiles (w : DtWork) (s : State) : (dtStore w s).profiles = s.profiles := rfl
@[simp] theorem dtStore_pd (w : DtWork) (s : State) : (dtStore w s).pd = s.pd := rfl
@[simp] theorem dtStore_dt (w : DtWork) (s : State) : (dtStore w s).dt = w.regs := rfl
@[simp] theorem dtStore_rc (w : DtWork) (s : State) : (dtStore w s).rc = s.rc := rfl
@[simp] theorem dtStore_tq (w : DtWork) (s : State) : (dtStore w s).tq = s.tq := rfl
@[simp] theorem dtStore_frm (w : DtWork) (s : State) : (dtStore w s).frm = s.frm := rfl
@[simp] theorem dtStore_seq (w : DtWork) (s : State) : (dtStore w s).seq = s.seq := rfl
@[simp] theorem dtStore_capFull (w : DtWork) (s : State) : (dtStore w s).capFull = s.capFull := rfl
@[simp] theorem dtStore_fault (w : DtWork) (s : State) : (dtStore w s).fault = s.fault := rfl
@[simp] theorem dtStore_cfg (w : DtWork) (s : State) : (dtStore w s).cfg = s.cfg := rfl
@[simp] theorem dtStore_out (w : DtWork) (s : State) : (dtStore w s).out = s.out := rfl
@[simp] theorem dtStore_conv (w : DtWork) (s : State) : (dtStore w s).conv = s.conv := rfl
@[simp] theorem dtStore_op (w : DtWork) (s : State) : (dtStore w s).op = s.op := rfl
@[simp] theorem dtStore_res (w : DtWork) (s : State) : (dtStore w s).res = s.res := rfl
@[simp] theorem dtStore_cap (w : DtWork) (s : State) : (dtStore w s).cap = s.cap := rfl
@[simp] theorem dtStore_sym (w : DtWork) (s : State) : (dtStore w s).sym = w.sym := rfl
@[simp] theorem dtStore_pay (w : DtWork) (s : State) : (dtStore w s).pay = s.pay := rfl
@[simp] theorem dtStore_rep (w : DtWork) (s : State) : (dtStore w s).rep = s.rep := rfl
@[simp] theorem dtStore_emit (w : DtWork) (s : State) : (dtStore w s).emit = s.emit := rfl
@[simp] theorem dtStore_log (w : DtWork) (s : State) : (dtStore w s).log = s.log := rfl
@[simp] theorem dtStore_txb (w : DtWork) (s : State) : (dtStore w s).txb = s.txb := rfl
@[simp] theorem dtStore_trace (w : DtWork) (s : State) : (dtStore w s).trace = w.trace := rfl
@[simp] theorem dtStore_capDev (w : DtWork) (s : State) : (dtStore w s).capDev = s.capDev := rfl
@[simp] theorem dtStore_port (w : DtWork) (s : State) : (dtStore w s).port = s.port := rfl
@[simp] theorem dtStore_pending (w : DtWork) (s : State) : (dtStore w s).pending = s.pending := rfl
@[simp] theorem dtStore_arrivals (w : DtWork) (s : State) : (dtStore w s).arrivals = s.arrivals := rfl
@[simp] theorem dtStore_cmdList (w : DtWork) (s : State) : (dtStore w s).cmdList = s.cmdList := rfl
@[simp] theorem dtStore_results (w : DtWork) (s : State) : (dtStore w s).results = s.results := rfl
@[simp] theorem dtStore_freeCtr (w : DtWork) (s : State) : (dtStore w s).freeCtr = s.freeCtr := rfl

/- ### openReceive -/

@[simp] theorem openReceive_par (s : State) : (openReceive s).par = s.par := rfl
@[simp] theorem openReceive_profiles (s : State) : (openReceive s).profiles = s.profiles := rfl
@[simp] theorem openReceive_pd (s : State) : (openReceive s).pd = s.pd := rfl
@[simp] theorem openReceive_dt (s : State) : (openReceive s).dt = s.dt := rfl
@[simp] theorem openReceive_rc (s : State) : (openReceive s).rc = s.rc := rfl
@[simp] theorem openReceive_tq (s : State) : (openReceive s).tq = s.tq := rfl
@[simp] theorem openReceive_frm (s : State) : (openReceive s).frm = s.frm := rfl
@[simp] theorem openReceive_seq (s : State) : (openReceive s).seq = ⟨.waitingForStart, s.seq.step⟩ := rfl
@[simp] theorem openReceive_capFull (s : State) : (openReceive s).capFull = false := rfl
@[simp] theorem openReceive_fault (s : State) : (openReceive s).fault = s.fault := rfl
@[simp] theorem openReceive_cfg (s : State) : (openReceive s).cfg = s.cfg := rfl
@[simp] theorem openReceive_out (s : State) : (openReceive s).out = s.out := rfl
@[simp] theorem openReceive_conv (s : State) : (openReceive s).conv = s.conv := rfl
@[simp] theorem openReceive_op (s : State) : (openReceive s).op = s.op := rfl
@[simp] theorem openReceive_res (s : State) : (openReceive s).res = s.res := rfl
@[simp] theorem openReceive_cap (s : State) : (openReceive s).cap = [] := rfl
@[simp] theorem openReceive_sym (s : State) : (openReceive s).sym = s.sym := rfl
@[simp] theorem openReceive_pay (s : State) : (openReceive s).pay = s.pay := rfl
@[simp] theorem openReceive_rep (s : State) : (openReceive s).rep = s.rep := rfl
@[simp] theorem openReceive_emit (s : State) : (openReceive s).emit = s.emit := rfl
@[simp] theorem openReceive_log (s : State) : (openReceive s).log = s.log := rfl
@[simp] theorem openReceive_txb (s : State) : (openReceive s).txb = s.txb := rfl
@[simp] theorem openReceive_trace (s : State) : (openReceive s).trace = s.trace := rfl
@[simp] theorem openReceive_capDev (s : State) : (openReceive s).capDev = ⟨false, []⟩ := rfl
@[simp] theorem openReceive_port (s : State) : (openReceive s).port = s.port := rfl
@[simp] theorem openReceive_pending (s : State) : (openReceive s).pending = s.pending := rfl
@[simp] theorem openReceive_arrivals (s : State) : (openReceive s).arrivals = s.arrivals.tail := rfl
@[simp] theorem openReceive_cmdList (s : State) : (openReceive s).cmdList = s.cmdList := rfl
@[simp] theorem openReceive_results (s : State) : (openReceive s).results = s.results := rfl
@[simp] theorem openReceive_freeCtr (s : State) : (openReceive s).freeCtr = s.freeCtr := rfl

/- ### closeReceive -/

@[simp] theorem closeReceive_par (c : Capture) (s : State) : (closeReceive c s).par = s.par := rfl
@[simp] theorem closeReceive_profiles (c : Capture) (s : State) : (closeReceive c s).profiles = s.profiles := rfl
@[simp] theorem closeReceive_pd (c : Capture) (s : State) : (closeReceive c s).pd = s.pd := rfl
@[simp] theorem closeReceive_dt (c : Capture) (s : State) : (closeReceive c s).dt = s.dt := rfl
@[simp] theorem closeReceive_rc (c : Capture) (s : State) : (closeReceive c s).rc = s.rc := rfl
@[simp] theorem closeReceive_tq (c : Capture) (s : State) : (closeReceive c s).tq = s.tq := rfl
@[simp] theorem closeReceive_frm (c : Capture) (s : State) : (closeReceive c s).frm = s.frm := rfl
@[simp] theorem closeReceive_seq (c : Capture) (s : State) : (closeReceive c s).seq = s.seq := rfl
@[simp] theorem closeReceive_capFull (c : Capture) (s : State) : (closeReceive c s).capFull = s.capFull := rfl
@[simp] theorem closeReceive_fault (c : Capture) (s : State) : (closeReceive c s).fault = s.fault := rfl
@[simp] theorem closeReceive_cfg (c : Capture) (s : State) : (closeReceive c s).cfg = s.cfg := rfl
@[simp] theorem closeReceive_out (c : Capture) (s : State) : (closeReceive c s).out = s.out := rfl
@[simp] theorem closeReceive_conv (c : Capture) (s : State) : (closeReceive c s).conv = s.conv := rfl
@[simp] theorem closeReceive_op (c : Capture) (s : State) : (closeReceive c s).op = s.op := rfl
@[simp] theorem closeReceive_res (c : Capture) (s : State) : (closeReceive c s).res = s.res := rfl
@[simp] theorem closeReceive_cap (c : Capture) (s : State) : (closeReceive c s).cap = c.cap := rfl
@[simp] theorem closeReceive_sym (c : Capture) (s : State) : (closeReceive c s).sym = s.sym := rfl
@[simp] theorem closeReceive_pay (c : Capture) (s : State) : (closeReceive c s).pay = s.pay := rfl
@[simp] theorem closeReceive_rep (c : Capture) (s : State) : (closeReceive c s).rep = s.rep := rfl
@[simp] theorem closeReceive_emit (c : Capture) (s : State) : (closeReceive c s).emit = s.emit := rfl
@[simp] theorem closeReceive_log (c : Capture) (s : State) : (closeReceive c s).log = c.log := rfl
@[simp] theorem closeReceive_txb (c : Capture) (s : State) : (closeReceive c s).txb = s.txb := rfl
@[simp] theorem closeReceive_trace (c : Capture) (s : State) : (closeReceive c s).trace = s.trace := rfl
@[simp] theorem closeReceive_capDev (c : Capture) (s : State) : (closeReceive c s).capDev = ⟨true, c.dev.queue⟩ := rfl
@[simp] theorem closeReceive_port (c : Capture) (s : State) : (closeReceive c s).port = s.port := rfl
@[simp] theorem closeReceive_pending (c : Capture) (s : State) : (closeReceive c s).pending = s.pending := rfl
@[simp] theorem closeReceive_arrivals (c : Capture) (s : State) : (closeReceive c s).arrivals = s.arrivals := rfl
@[simp] theorem closeReceive_cmdList (c : Capture) (s : State) : (closeReceive c s).cmdList = s.cmdList := rfl
@[simp] theorem closeReceive_results (c : Capture) (s : State) : (closeReceive c s).results = s.results := rfl
@[simp] theorem closeReceive_freeCtr (c : Capture) (s : State) : (closeReceive c s).freeCtr = s.freeCtr := rfl

/- ### endStep -/

@[simp] theorem endStep_par (s : State) : (endStep s).par = s.par := rfl
@[simp] theorem endStep_profiles (s : State) : (endStep s).profiles = s.profiles := rfl
@[simp] theorem endStep_pd (s : State) : (endStep s).pd = s.pd := rfl
@[simp] theorem endStep_dt (s : State) : (endStep s).dt = s.dt := rfl
@[simp] theorem endStep_rc (s : State) : (endStep s).rc = s.rc := rfl
@[simp] theorem endStep_tq (s : State) : (endStep s).tq = s.tq := rfl
@[simp] theorem endStep_frm (s : State) : (endStep s).frm = s.frm := rfl
@[simp] theorem endStep_seq (s : State) : (endStep s).seq = ⟨terminalState s.out.kind s.seq.st, s.seq.step⟩ := rfl
@[simp] theorem endStep_capFull (s : State) : (endStep s).capFull = s.capFull := rfl
@[simp] theorem endStep_fault (s : State) : (endStep s).fault = s.fault := rfl
@[simp] theorem endStep_cfg (s : State) : (endStep s).cfg = s.cfg := rfl
@[simp] theorem endStep_out (s : State) : (endStep s).out = s.out := rfl
@[simp] theorem endStep_conv (s : State) : (endStep s).conv = s.conv := rfl
@[simp] theorem endStep_op (s : State) : (endStep s).op = s.op := rfl
@[simp] theorem endStep_res (s : State) : (endStep s).res = s.res := rfl
@[simp] theorem endStep_cap (s : State) : (endStep s).cap = s.cap := rfl
@[simp] theorem endStep_sym (s : State) : (endStep s).sym = s.sym := rfl
@[simp] theorem endStep_pay (s : State) : (endStep s).pay = s.pay := rfl
@[simp] theorem endStep_rep (s : State) : (endStep s).rep = s.rep := rfl
@[simp] theorem endStep_emit (s : State) : (endStep s).emit = s.emit := rfl
@[simp] theorem endStep_log (s : State) : (endStep s).log = s.log := rfl
@[simp] theorem endStep_txb (s : State) : (endStep s).txb = s.txb := rfl
@[simp] theorem endStep_trace (s : State) : (endStep s).trace = s.trace := rfl
@[simp] theorem endStep_capDev (s : State) : (endStep s).capDev = s.capDev := rfl
@[simp] theorem endStep_port (s : State) : (endStep s).port = s.port := rfl
@[simp] theorem endStep_pending (s : State) : (endStep s).pending = s.pending := rfl
@[simp] theorem endStep_arrivals (s : State) : (endStep s).arrivals = s.arrivals := rfl
@[simp] theorem endStep_cmdList (s : State) : (endStep s).cmdList = s.cmdList := rfl
@[simp] theorem endStep_results (s : State) : (endStep s).results = s.results := rfl
@[simp] theorem endStep_freeCtr (s : State) : (endStep s).freeCtr = s.freeCtr := rfl

/- ### recordStep -/

@[simp] theorem recordStep_par (n : Nat) (s : State) : (recordStep n s).par = s.par := rfl
@[simp] theorem recordStep_profiles (n : Nat) (s : State) : (recordStep n s).profiles = s.profiles := rfl
@[simp] theorem recordStep_pd (n : Nat) (s : State) : (recordStep n s).pd = s.pd := rfl
@[simp] theorem recordStep_dt (n : Nat) (s : State) : (recordStep n s).dt = s.dt := rfl
@[simp] theorem recordStep_rc (n : Nat) (s : State) : (recordStep n s).rc = s.rc := rfl
@[simp] theorem recordStep_tq (n : Nat) (s : State) : (recordStep n s).tq = s.tq := rfl
@[simp] theorem recordStep_frm (n : Nat) (s : State) : (recordStep n s).frm = s.frm := rfl
@[simp] theorem recordStep_seq (n : Nat) (s : State) : (recordStep n s).seq = s.seq := rfl
@[simp] theorem recordStep_capFull (n : Nat) (s : State) : (recordStep n s).capFull = s.capFull := rfl
@[simp] theorem recordStep_fault (n : Nat) (s : State) : (recordStep n s).fault = s.fault := rfl
@[simp] theorem recordStep_cfg (n : Nat) (s : State) : (recordStep n s).cfg = s.cfg := rfl
@[simp] theorem recordStep_out (n : Nat) (s : State) : (recordStep n s).out = s.out := rfl
@[simp] theorem recordStep_conv (n : Nat) (s : State) : (recordStep n s).conv = ⟨count16 n, s.conv.aborted⟩ := rfl
@[simp] theorem recordStep_op (n : Nat) (s : State) : (recordStep n s).op = s.op := rfl
@[simp] theorem recordStep_res (n : Nat) (s : State) : (recordStep n s).res = s.res := rfl
@[simp] theorem recordStep_cap (n : Nat) (s : State) : (recordStep n s).cap = s.cap := rfl
@[simp] theorem recordStep_sym (n : Nat) (s : State) : (recordStep n s).sym = s.sym := rfl
@[simp] theorem recordStep_pay (n : Nat) (s : State) : (recordStep n s).pay = s.pay := rfl
@[simp] theorem recordStep_rep (n : Nat) (s : State) : (recordStep n s).rep = s.rep := rfl
@[simp] theorem recordStep_emit (n : Nat) (s : State) : (recordStep n s).emit = s.emit := rfl
@[simp] theorem recordStep_log (n : Nat) (s : State) : (recordStep n s).log = s.log := rfl
@[simp] theorem recordStep_txb (n : Nat) (s : State) : (recordStep n s).txb = s.txb := rfl
@[simp] theorem recordStep_trace (n : Nat) (s : State) : (recordStep n s).trace = s.trace := rfl
@[simp] theorem recordStep_capDev (n : Nat) (s : State) : (recordStep n s).capDev = s.capDev := rfl
@[simp] theorem recordStep_port (n : Nat) (s : State) : (recordStep n s).port = s.port := rfl
@[simp] theorem recordStep_pending (n : Nat) (s : State) : (recordStep n s).pending = s.pending := rfl
@[simp] theorem recordStep_arrivals (n : Nat) (s : State) : (recordStep n s).arrivals = s.arrivals := rfl
@[simp] theorem recordStep_cmdList (n : Nat) (s : State) : (recordStep n s).cmdList = s.cmdList := rfl
@[simp] theorem recordStep_results (n : Nat) (s : State) :
    (recordStep n s).results = s.results ++ [⟨s.out, s.rep, s.trace⟩] := rfl
@[simp] theorem recordStep_freeCtr (n : Nat) (s : State) : (recordStep n s).freeCtr = s.freeCtr := rfl

/- ### stopConversation -/

@[simp] theorem stopConversation_par (n m : Nat) (s : State) : (stopConversation n m s).par = s.par := rfl
@[simp] theorem stopConversation_profiles (n m : Nat) (s : State) :
    (stopConversation n m s).profiles = s.profiles := rfl
@[simp] theorem stopConversation_pd (n m : Nat) (s : State) : (stopConversation n m s).pd = s.pd := rfl
@[simp] theorem stopConversation_dt (n m : Nat) (s : State) : (stopConversation n m s).dt = s.dt := rfl
@[simp] theorem stopConversation_rc (n m : Nat) (s : State) : (stopConversation n m s).rc = s.rc := rfl
@[simp] theorem stopConversation_tq (n m : Nat) (s : State) : (stopConversation n m s).tq = s.tq := rfl
@[simp] theorem stopConversation_frm (n m : Nat) (s : State) : (stopConversation n m s).frm = s.frm := rfl
@[simp] theorem stopConversation_seq (n m : Nat) (s : State) : (stopConversation n m s).seq = s.seq := rfl
@[simp] theorem stopConversation_capFull (n m : Nat) (s : State) : (stopConversation n m s).capFull = s.capFull := rfl
@[simp] theorem stopConversation_fault (n m : Nat) (s : State) : (stopConversation n m s).fault = s.fault := rfl
@[simp] theorem stopConversation_cfg (n m : Nat) (s : State) : (stopConversation n m s).cfg = s.cfg := rfl
@[simp] theorem stopConversation_out (n m : Nat) (s : State) : (stopConversation n m s).out = s.out := rfl
@[simp] theorem stopConversation_conv (n m : Nat) (s : State) :
    (stopConversation n m s).conv = ⟨s.conv.done, decide (n < m)⟩ := rfl
@[simp] theorem stopConversation_op (n m : Nat) (s : State) : (stopConversation n m s).op = s.op := rfl
@[simp] theorem stopConversation_res (n m : Nat) (s : State) : (stopConversation n m s).res = s.res := rfl
@[simp] theorem stopConversation_cap (n m : Nat) (s : State) : (stopConversation n m s).cap = s.cap := rfl
@[simp] theorem stopConversation_sym (n m : Nat) (s : State) : (stopConversation n m s).sym = s.sym := rfl
@[simp] theorem stopConversation_pay (n m : Nat) (s : State) : (stopConversation n m s).pay = s.pay := rfl
@[simp] theorem stopConversation_rep (n m : Nat) (s : State) : (stopConversation n m s).rep = s.rep := rfl
@[simp] theorem stopConversation_emit (n m : Nat) (s : State) : (stopConversation n m s).emit = s.emit := rfl
@[simp] theorem stopConversation_log (n m : Nat) (s : State) : (stopConversation n m s).log = s.log := rfl
@[simp] theorem stopConversation_txb (n m : Nat) (s : State) : (stopConversation n m s).txb = s.txb := rfl
@[simp] theorem stopConversation_trace (n m : Nat) (s : State) : (stopConversation n m s).trace = s.trace := rfl
@[simp] theorem stopConversation_capDev (n m : Nat) (s : State) : (stopConversation n m s).capDev = s.capDev := rfl
@[simp] theorem stopConversation_port (n m : Nat) (s : State) : (stopConversation n m s).port = s.port := rfl
@[simp] theorem stopConversation_pending (n m : Nat) (s : State) : (stopConversation n m s).pending = s.pending := rfl
@[simp] theorem stopConversation_arrivals (n m : Nat) (s : State) :
    (stopConversation n m s).arrivals = s.arrivals := rfl
@[simp] theorem stopConversation_cmdList (n m : Nat) (s : State) : (stopConversation n m s).cmdList = s.cmdList := rfl
@[simp] theorem stopConversation_results (n m : Nat) (s : State) : (stopConversation n m s).results = s.results := rfl
@[simp] theorem stopConversation_freeCtr (n m : Nat) (s : State) : (stopConversation n m s).freeCtr = s.freeCtr := rfl

/- ### startConversation -/

@[simp] theorem startConversation_par (t : Bool) (s : State) : (startConversation t s).par = s.par := rfl
@[simp] theorem startConversation_profiles (t : Bool) (s : State) :
    (startConversation t s).profiles = s.profiles := rfl
@[simp] theorem startConversation_pd (t : Bool) (s : State) : (startConversation t s).pd = s.pd := rfl
@[simp] theorem startConversation_dt (t : Bool) (s : State) : (startConversation t s).dt = s.dt := rfl
@[simp] theorem startConversation_rc (t : Bool) (s : State) : (startConversation t s).rc = s.rc := rfl
@[simp] theorem startConversation_tq (t : Bool) (s : State) : (startConversation t s).tq = s.tq := rfl
@[simp] theorem startConversation_frm (t : Bool) (s : State) : (startConversation t s).frm = s.frm := rfl
@[simp] theorem startConversation_seq (t : Bool) (s : State) : (startConversation t s).seq = s.seq := rfl
@[simp] theorem startConversation_capFull (t : Bool) (s : State) : (startConversation t s).capFull = s.capFull := rfl
@[simp] theorem startConversation_fault (t : Bool) (s : State) : (startConversation t s).fault = s.fault := rfl
@[simp] theorem startConversation_cfg (t : Bool) (s : State) :
    (startConversation t s).cfg = { s.cfg with trace := t } := rfl
@[simp] theorem startConversation_out (t : Bool) (s : State) : (startConversation t s).out = s.out := rfl
@[simp] theorem startConversation_conv (t : Bool) (s : State) : (startConversation t s).conv = s.conv := rfl
@[simp] theorem startConversation_op (t : Bool) (s : State) :
    (startConversation t s).op = ⟨s.cmdList.family, s.op.b⟩ := rfl
@[simp] theorem startConversation_res (t : Bool) (s : State) : (startConversation t s).res = s.res := rfl
@[simp] theorem startConversation_cap (t : Bool) (s : State) : (startConversation t s).cap = s.cap := rfl
@[simp] theorem startConversation_sym (t : Bool) (s : State) : (startConversation t s).sym = s.sym := rfl
@[simp] theorem startConversation_pay (t : Bool) (s : State) : (startConversation t s).pay = s.pay := rfl
@[simp] theorem startConversation_rep (t : Bool) (s : State) : (startConversation t s).rep = s.rep := rfl
@[simp] theorem startConversation_emit (t : Bool) (s : State) : (startConversation t s).emit = s.emit := rfl
@[simp] theorem startConversation_log (t : Bool) (s : State) : (startConversation t s).log = s.log := rfl
@[simp] theorem startConversation_txb (t : Bool) (s : State) : (startConversation t s).txb = s.txb := rfl
@[simp] theorem startConversation_trace (t : Bool) (s : State) : (startConversation t s).trace = s.trace := rfl
@[simp] theorem startConversation_capDev (t : Bool) (s : State) : (startConversation t s).capDev = s.capDev := rfl
@[simp] theorem startConversation_port (t : Bool) (s : State) : (startConversation t s).port = s.port := rfl
@[simp] theorem startConversation_pending (t : Bool) (s : State) : (startConversation t s).pending = s.pending := rfl
@[simp] theorem startConversation_arrivals (t : Bool) (s : State) :
    (startConversation t s).arrivals = s.arrivals := rfl
@[simp] theorem startConversation_cmdList (t : Bool) (s : State) : (startConversation t s).cmdList = s.cmdList := rfl
@[simp] theorem startConversation_results (t : Bool) (s : State) : (startConversation t s).results = [] := rfl
@[simp] theorem startConversation_freeCtr (t : Bool) (s : State) : (startConversation t s).freeCtr = s.freeCtr := rfl

/- ### clearConversation -/

@[simp] theorem clearConversation_par (s : State) : (clearConversation s).par = s.par := rfl
@[simp] theorem clearConversation_profiles (s : State) : (clearConversation s).profiles = s.profiles := rfl
@[simp] theorem clearConversation_pd (s : State) : (clearConversation s).pd = s.pd := rfl
@[simp] theorem clearConversation_dt (s : State) : (clearConversation s).dt = s.dt := rfl
@[simp] theorem clearConversation_rc (s : State) : (clearConversation s).rc = s.rc := rfl
@[simp] theorem clearConversation_tq (s : State) : (clearConversation s).tq = s.tq := rfl
@[simp] theorem clearConversation_frm (s : State) : (clearConversation s).frm = s.frm := rfl
@[simp] theorem clearConversation_seq (s : State) : (clearConversation s).seq = ⟨s.seq.st, 0⟩ := rfl
@[simp] theorem clearConversation_capFull (s : State) : (clearConversation s).capFull = s.capFull := rfl
@[simp] theorem clearConversation_fault (s : State) : (clearConversation s).fault = s.fault := rfl
@[simp] theorem clearConversation_cfg (s : State) : (clearConversation s).cfg = s.cfg := rfl
@[simp] theorem clearConversation_out (s : State) : (clearConversation s).out = s.out := rfl
@[simp] theorem clearConversation_conv (s : State) : (clearConversation s).conv = ⟨0, false⟩ := rfl
@[simp] theorem clearConversation_op (s : State) : (clearConversation s).op = s.op := rfl
@[simp] theorem clearConversation_res (s : State) : (clearConversation s).res = s.res := rfl
@[simp] theorem clearConversation_cap (s : State) : (clearConversation s).cap = s.cap := rfl
@[simp] theorem clearConversation_sym (s : State) : (clearConversation s).sym = s.sym := rfl
@[simp] theorem clearConversation_pay (s : State) : (clearConversation s).pay = s.pay := rfl
@[simp] theorem clearConversation_rep (s : State) : (clearConversation s).rep = s.rep := rfl
@[simp] theorem clearConversation_emit (s : State) : (clearConversation s).emit = s.emit := rfl
@[simp] theorem clearConversation_log (s : State) : (clearConversation s).log = s.log := rfl
@[simp] theorem clearConversation_txb (s : State) : (clearConversation s).txb = s.txb := rfl
@[simp] theorem clearConversation_trace (s : State) : (clearConversation s).trace = s.trace := rfl
@[simp] theorem clearConversation_capDev (s : State) : (clearConversation s).capDev = s.capDev := rfl
@[simp] theorem clearConversation_port (s : State) : (clearConversation s).port = s.port := rfl
@[simp] theorem clearConversation_pending (s : State) : (clearConversation s).pending = s.pending := rfl
@[simp] theorem clearConversation_arrivals (s : State) : (clearConversation s).arrivals = s.arrivals := rfl
@[simp] theorem clearConversation_cmdList (s : State) : (clearConversation s).cmdList = s.cmdList := rfl
@[simp] theorem clearConversation_results (s : State) : (clearConversation s).results = s.results := rfl
@[simp] theorem clearConversation_freeCtr (s : State) : (clearConversation s).freeCtr = s.freeCtr := rfl

end Sys2Proof.Machine
end

