-- ==== Sys2Proof/Laws/Ops.lean ====
section
/-! SUPPORT. What each shared operation can do, said once: the lemmas proofs cite instead of unfolding the operations. -/

namespace Sys2Proof.Machine

/- ### How an operation runs and ends -/

@[simp] theorem Run.andThen_ok (s : State) (k : State → Run) : (Run.ok s).andThen k = k s := rfl
@[simp] theorem Run.andThen_halted (s : State) (k : State → Run) : (Run.halted s).andThen k = .halted s := rfl
@[simp] theorem Run.andThen_stuck (f : Fault) (k : State → Run) : (Run.stuck f).andThen k = .stuck f := rfl
@[simp] theorem Run.andThen_refused (x : Refusal) (k : State → Run) : (Run.refused x).andThen k = .refused x := rfl
@[simp] theorem Run.toOutcome_ok (s : State) : (Run.ok s).toOutcome = .next s := rfl
@[simp] theorem Run.toOutcome_halted (s : State) : (Run.halted s).toOutcome = .next s := rfl
@[simp] theorem Run.toOutcome_stuck (f : Fault) : (Run.stuck f).toOutcome = .fault f := rfl
@[simp] theorem Run.toOutcome_refused (x : Refusal) : (Run.refused x).toOutcome = .refused x := rfl

/-- A sequence ends well exactly when both parts do. -/
theorem Run.andThen_eq_ok {r : Run} {k : State → Run} {t : State} :
    r.andThen k = .ok t ↔ ∃ s, r = .ok s ∧ k s = .ok t := by cases r <;> simp

/-- A sequence faults in its first part or in its second. -/
theorem Run.andThen_eq_halted {r : Run} {k : State → Run} {t : State} :
    r.andThen k = .halted t ↔ r = .halted t ∨ ∃ s, r = .ok s ∧ k s = .halted t := by cases r <;> simp

/-- A sequence is stuck in its first part or in its second. -/
theorem Run.andThen_eq_stuck {r : Run} {k : State → Run} {f : Fault} :
    r.andThen k = .stuck f ↔ r = .stuck f ∨ ∃ s, r = .ok s ∧ k s = .stuck f := by cases r <;> simp

/-- A sequence is refused in its first part or in its second. -/
theorem Run.andThen_eq_refused {r : Run} {k : State → Run} {x : Refusal} :
    r.andThen k = .refused x ↔ r = .refused x ∨ ∃ s, r = .ok s ∧ k s = .refused x := by cases r <;> simp

/-- An operation answers a next state when it ends or faults. -/
theorem Run.toOutcome_eq_next {r : Run} {t : State} : r.toOutcome = .next t ↔ r = .ok t ∨ r = .halted t := by
  cases r <;> simp

/-- An operation answers a model fault only when it is stuck. -/
theorem Run.toOutcome_eq_fault {r : Run} {f : Fault} : r.toOutcome = .fault f ↔ r = .stuck f := by cases r <;> simp

/-- An operation is refused only by a refused part. -/
theorem Run.toOutcome_eq_refused {r : Run} {x : Refusal} : r.toOutcome = .refused x ↔ r = .refused x := by
  cases r <;> simp

@[simp] theorem raiseFault_eq (c : FaultCause) (s : State) : raiseFault c s = .halted (takeFault c s) := rfl

/- ### Reading the profile -/

/-- No profile is selected: reading one faults. -/
theorem withProfile_none {s : State} {k : Profile → Run} (h : selectedProfile s = none) :
    withProfile s k = .halted (takeFault .badProfile s) := by simp [withProfile, h]

/-- A profile is selected: the operation goes on with it. -/
theorem withProfile_some {s : State} {k : Profile → Run} {P : Profile} (h : selectedProfile s = some P) :
    withProfile s k = k P := by simp [withProfile, h]

/-- Under the kind a unit needs it goes on, under the other it faults. -/
theorem withKind_some {kind : Kind} {s : State} {k : Profile → Run} {P : Profile} (h : selectedProfile s = some P) :
    withKind kind s k = if P.kind = kind then k P else .halted (takeFault .badProfile s) := by
  simp [withKind, withProfile_some h]

/-- With no profile a unit faults. -/
theorem withKind_none {kind : Kind} {s : State} {k : Profile → Run} (h : selectedProfile s = none) :
    withKind kind s k = .halted (takeFault .badProfile s) := withProfile_none h

/-- A well-formed profile is admitted. -/
theorem admitting_of_wellFormed {P : Profile} {r : Run} (h : profileWellFormed P = true) : admitting P r = r := by
  simp [admitting, profileAdmitted, h]

/-- The admitted profiles: the well-formed ones, and the duty rows well formed but for a tick length of 0. -/
theorem profileAdmitted_iff {P : Profile} :
    profileAdmitted P = true ↔ profileWellFormed P = true ∨
      (P.kind = .duty ∧ P.tickLen = 0 ∧ profileWellFormed { P with tickLen := P.dutyPulseSend } = true) := by
  cases hk : P.kind with
  | pd => simp [profileAdmitted, profileWellFormed, hk]
  | duty =>
    simp [profileAdmitted, profileWellFormed, commonConditions, framingConditions, tickConditions, hk]
    tauto

/-- A profile that is not admitted is refused. -/
theorem admitting_of_not {P : Profile} {r : Run} (h : profileAdmitted P = false) :
    admitting P r = .refused .profileIllFormed := by simp [admitting, h]

/-- The selection depends on three fields only. -/
theorem selectedProfile_congr {a b : State} (h1 : a.profiles = b.profiles) (h2 : a.cfg.sel = b.cfg.sel)
    (h3 : a.cfg.valid = b.cfg.valid) : selectedProfile a = selectedProfile b := by
  simp [selectedProfile, h1, h2, h3]

@[simp] theorem selectedProfile_startStep (t : Bool) (s : State) :
    selectedProfile (startStep t s) = selectedProfile s := rfl

@[simp] theorem selectedProfile_pending (s : State) (l : List HostAction) :
    selectedProfile { s with pending := l } = selectedProfile s := rfl

/- ### Bounds and bits -/

theorem inRange_iff {d lo hi : Nat} : inRange d lo hi = true ↔ lo ≤ d ∧ d ≤ hi := by simp [inRange]

theorem inBounds_iff {d : Nat} {b : Bounds} : inBounds d b = true ↔ b.min ≤ d ∧ d ≤ b.max := inRange_iff

/-- What a sender sends is within the bounds its receiver tests. -/
theorem inBounds_send {b : Bounds} (h : boundsOrdered b = true) : inBounds b.send b = true := by
  simpa [boundsOrdered, inBounds, inRange] using h

/-- In a well-formed `PD` profile a Duration is a bit pulse or a stop pulse, never both. -/
theorem bitPulse_not_stopPulse {P : Profile} (h : pdConditions P = true) {d : Nat}
    (hb : inBounds d P.bitPulse = true) : inBounds d P.stopPulse = false := by
  rw [inBounds_iff] at hb
  rw [Bool.eq_false_iff]
  intro hs
  rw [inBounds_iff] at hs
  simp only [pdConditions, Bool.and_eq_true, Bool.or_eq_true, decide_eq_true_eq] at h
  omega

/- ### Buffers and peripherals -/

/-- The log holds the first entries of what was pushed. -/
theorem logPush_take (n : Nat) (xs : List Nat) (d : Nat) :
    logPush n (xs.take n) d = (xs ++ [d]).take n := by
  unfold logPush
  by_cases h : xs.length < n
  · rw [List.take_of_length_le (by omega), if_pos h, List.take_of_length_le (by simp; omega)]
  · rw [List.length_take, if_neg (by omega), List.take_append_of_le_length (by omega)]

@[simp] theorem capArrive_running (d : Nat) (q : List Nat) : capArrive d ⟨false, q⟩ = ⟨false, q ++ [d]⟩ := rfl
@[simp] theorem capArrive_paused (d : Nat) (q : List Nat) : capArrive d ⟨true, q⟩ = ⟨true, q⟩ := rfl
@[simp] theorem capArrive_keeps_paused (d : Nat) (c : CaptureDev) : (capArrive d c).paused = c.paused := by
  unfold capArrive; split <;> rfl

/-- Taking a Duration from a running, empty peripheral: it goes to `CAP` and the log. -/
@[simp] theorem capTake_running (n : Nat) (d : Nat) (cap log : List Nat) :
    capTake n d ⟨cap, log, ⟨false, []⟩⟩ = ⟨cap ++ [d], logPush n log d, ⟨false, []⟩⟩ := rfl

/-- What arrives at a running peripheral and is not taken stays in its queue. -/
theorem arriveUntil_running (t : Nat) (rest : List Arrival) (q : List Nat) :
    arriveUntil t rest ⟨false, q⟩ =
      ⟨false, q ++ ((rest.takeWhile fun a => decide (a.time ≤ t)).map (·.dur))⟩ := by
  unfold arriveUntil
  generalize rest.takeWhile (fun a => decide (a.time ≤ t)) = l
  induction l generalizing q with
  | nil => simp
  | cons a l ih => simp [ih]

/- ### Pushes -/

/-- A push to `SYM` appends, or stops with nothing written. -/
theorem dtPush_cases (n : Nat) (x : Symbol) (w : DtWork) :
    (n ≤ w.sym.length ∧ dtPush n x w = .error w) ∨
    (w.sym.length < n ∧ dtPush n x w = .ok { w with sym := w.sym ++ [x] }) := by
  unfold dtPush
  by_cases h : n ≤ w.sym.length
  · exact .inl ⟨h, if_pos h⟩
  · exact .inr ⟨by omega, if_neg h⟩

/-- A push to `PAY` appends, or faults with nothing written. -/
theorem payPush_cases (n : Nat) (e : PayEntry) (w : FrmWork) :
    (n ≤ w.pay.length ∧ payPush n e w = .error (.payloadOverflow, w)) ∨
    (w.pay.length < n ∧ payPush n e w = .ok { w with pay := w.pay ++ [e] }) := by
  unfold payPush
  by_cases h : n ≤ w.pay.length
  · exact .inl ⟨h, if_pos h⟩
  · exact .inr ⟨by omega, if_neg h⟩

/- ### Duty decoder -/

@[simp] theorem dtTrace_off (cs : List TraceChar) (w : DtWork) : dtTrace false cs w = w := rfl
@[simp] theorem dtTrace_on (cs : List TraceChar) (w : DtWork) : dtTrace true cs w = { w with trace := w.trace ++ cs } := rfl
@[simp] theorem dtTrace_regs (on : Bool) (cs : List TraceChar) (w : DtWork) : (dtTrace on cs w).regs = w.regs := by
  cases on <;> rfl
@[simp] theorem dtTrace_sym (on : Bool) (cs : List TraceChar) (w : DtWork) : (dtTrace on cs w).sym = w.sym := by
  cases on <;> rfl

/-- Completing a byte pushes it padded with ones, or stops. -/
theorem dtComplete_cases (n : Nat) (on : Bool) (w : DtWork) :
    (n ≤ w.sym.length ∧ dtComplete n on w = .error w) ∨
    (w.sym.length < n ∧ ∃ v, dtComplete n on w = .ok v ∧ v.sym = w.sym ++ [.byte (dtPadded w.regs)] ∧
      v.regs = ⟨0, 0, w.regs.cur, false⟩) := by
  rcases dtPush_cases n (.byte (dtPadded w.regs)) w with ⟨h, e⟩ | ⟨h, e⟩
  · exact .inl ⟨h, by simp [dtComplete, e, Except.map]⟩
  · refine .inr ⟨h, dtClose (dtTrace on (List.replicate (8 - w.regs.tib.toNat) .noPulse ++ [.byteBoundary])
      { w with sym := w.sym ++ [.byte (dtPadded w.regs)] }), ?_, ?_, ?_⟩ <;> simp [dtComplete, e, Except.map, dtClose]

/-- Aborting a byte pushes `ByteError`, or stops. -/
theorem dtAbort_cases (n : Nat) (on : Bool) (w : DtWork) :
    (n ≤ w.sym.length ∧ dtAbort n on w = .error w) ∨
    (w.sym.length < n ∧ ∃ v, dtAbort n on w = .ok v ∧ v.sym = w.sym ++ [.byteError] ∧
      v.regs = ⟨0, 0, w.regs.cur, false⟩) := by
  rcases dtPush_cases n .byteError w with ⟨h, e⟩ | ⟨h, e⟩
  · exact .inl ⟨h, by simp [dtAbort, e, Except.map]⟩
  · refine .inr ⟨h, dtClose (dtTrace on [.abortedByte] { w with sym := w.sym ++ [.byteError] }), ?_, ?_, ?_⟩ <;>
      simp [dtAbort, e, Except.map, dtClose]

/-- The decoder's loop goes through whole pairs first, then through what follows them. -/
theorem dtLoop_append (par : EngineParams) (P : Profile) (on : Bool) (xs : List (Nat × Nat)) (ds : List Nat)
    (w : DtWork) :
    dtLoop par P on (xs.flatMap (fun x => [x.1, x.2]) ++ ds) w =
      (dtLoop par P on (xs.flatMap fun x => [x.1, x.2]) w).bind (dtLoop par P on ds) := by
  induction xs generalizing w with
  | nil => rfl
  | cons x xs ih =>
    simp only [List.flatMap_cons, List.cons_append, List.nil_append, dtLoop]
    cases dtPair par P on x.1 x.2 (dtOpen on w) with
    | error v => rfl
    | ok v => exact ih (dtAdvance 2 v)

/- ### Framer -/

@[simp] theorem flushNoise_pay (w : FrmWork) : (flushNoise w).pay = w.pay := rfl
@[simp] theorem flushNoise_regs (w : FrmWork) : (flushNoise w).regs = { w.regs with abortRun := 0 } := rfl
@[simp] theorem flushNoise_rep (w : FrmWork) : (flushNoise w).rep = w.rep ++ noiseReports w.regs.abortRun := rfl
@[simp] theorem closePacket_pay (par : EngineParams) (w : FrmWork) : (closePacket par w).pay = w.pay := rfl
@[simp] theorem closePacket_rep (par : EngineParams) (w : FrmWork) :
    (closePacket par w).rep =
      w.rep ++ noiseReports w.regs.abortRun ++ [packetReport par w.pay w.regs.bad] := rfl
@[simp] theorem closePacket_regs (par : EngineParams) (w : FrmWork) :
    (closePacket par w).regs =
      { w.regs with abortRun := 0, st := .seeking, idx := 0, esc := false, bad := false } := rfl
@[simp] theorem abortPacket_pay (b : Bool) (w : FrmWork) : (abortPacket b w).pay = w.pay := rfl
@[simp] theorem abortPacket_rep (b : Bool) (w : FrmWork) : (abortPacket b w).rep = w.rep := rfl
@[simp] theorem abortPacket_st (b : Bool) (w : FrmWork) :
    (abortPacket b w).regs.st = if b then .seeking else .aborted := rfl
@[simp] theorem abortPacket_cur (b : Bool) (w : FrmWork) : (abortPacket b w).regs.cur = w.regs.cur := rfl

/-- One turn of the framer's loop: a stored `END` faults, any other symbol goes to the case of the state. -/
theorem frmSymbol_cases (par : EngineParams) (P : Profile) (x : Symbol) (w : FrmWork) :
    (x = .endMark ∧ frmSymbol par P x w = .error (.badSymbol, w)) ∨
    (x ≠ .endMark ∧ ∃ e, frmCase par P x w = .error e ∧ frmSymbol par P x w = .error e) ∨
    (x ≠ .endMark ∧ ∃ v, frmCase par P x w = .ok v ∧
      frmSymbol par P x w = .ok { v with regs := { v.regs with cur := v.regs.cur + 1 } }) := by
  by_cases h : x = .endMark
  · exact .inl ⟨h, by simp [frmSymbol, h]⟩
  · cases hc : frmCase par P x w with
    | error e => exact .inr (.inl ⟨h, e, rfl, by simp [frmSymbol, h, hc, Except.map]⟩)
    | ok v => exact .inr (.inr ⟨h, v, rfl, by simp [frmSymbol, h, hc, Except.map]⟩)

/-- The framer's loop goes through a list in parts. -/
theorem frmLoop_append (par : EngineParams) (P : Profile) (xs ys : List Symbol) (w : FrmWork) :
    frmLoop par P (xs ++ ys) w = (frmLoop par P xs w).bind (frmLoop par P ys) := by
  induction xs generalizing w with
  | nil => rfl
  | cons x xs ih =>
    simp only [List.cons_append, frmLoop]
    cases frmSymbol par P x w with
    | error e => rfl
    | ok v => exact ih v

/- ### Modulator -/

/-- An emission that fits is written, and nothing else. -/
theorem modpdCore_fits {P : Profile} {s : State} (h : 16 * s.txb.length + 4 ≤ s.par.emitMax) :
    modpdCore P s = .ok { s with emit := (pdEmission P s.txb).map .bare } := if_neg (Nat.not_lt.mpr h)

/-- An emission that does not fit faults with `EMIT` empty. -/
theorem modpdCore_overflow {P : Profile} {s : State} (h : s.par.emitMax < 16 * s.txb.length + 4) :
    modpdCore P s = .halted (takeFault .emitOverflow { s with emit := [] }) := if_pos h

/-- A byte needs at most a start tick, eight data ticks, their gaps, and the idle ticks. -/
theorem dutyPerByte_le (P : Profile) : dutyPerByte P ≤ 18 + P.dutyStopTicks.toNat := by
  unfold dutyPerByte; split <;> omega

theorem moddutyCore_fits {P : Profile} {s : State} (h : s.txb.length * dutyPerByte P ≤ s.par.emitMax) :
    moddutyCore P s = .ok { s with emit := dutyEmission s.par.pulseBit P s.txb } := if_neg (Nat.not_lt.mpr h)

theorem moddutyCore_overflow {P : Profile} {s : State} (h : s.par.emitMax < s.txb.length * dutyPerByte P) :
    moddutyCore P s = .halted (takeFault .emitOverflow { s with emit := [] }) := if_pos h

/- ### Sequencer -/

/-- A receive refuses an ill-formed trace, is stuck on an unbounded wait for nothing, and else captures. -/
theorem receive_cases (t : Bool) (P : Profile) (W : Option Nat) (s : State) :
    (traceAdmitted s.par (nextTrace s) = false ∧ receive t P W s = .refused .traceIllFormed) ∨
    (nextTrace s = [] ∧ W = none ∧ receive t P W s = .stuck .waitForever) ∨
    (traceAdmitted s.par (nextTrace s) = true ∧ ¬(nextTrace s = [] ∧ W = none) ∧
      receive t P W s = afterCapture t P (openReceive s)
        (capture s.par P W (nextTrace s) ⟨[], s.log, ⟨false, []⟩⟩)) := by
  unfold receive
  by_cases h : traceAdmitted s.par (nextTrace s) = true
  · by_cases h2 : nextTrace s = [] ∧ W = none
    · exact .inr (.inl ⟨h2.1, h2.2, by rw [if_pos h, if_pos h2]⟩)
    · exact .inr (.inr ⟨h, h2, by rw [if_pos h, if_neg h2]; rfl⟩)
  · exact .inl ⟨by simpa using h, if_neg h⟩

/-- What a step does after its capture, by the capture's end. -/
theorem afterCapture_tooLong (t : Bool) (P : Profile) (s : State) (c : Capture) :
    afterCapture t P s (c, .tooLong) =
      .ok { (closeReceive c s) with
        seq := ⟨.badPacket, s.seq.step⟩, out := outBad .tooLong c.cap.length P.packetLengthTimeout } := rfl

theorem afterCapture_nothing (t : Bool) (P : Profile) (s : State) (c : Capture) :
    afterCapture t P s (c, .nothingReceived) =
      .ok { (closeReceive c s) with seq := ⟨.timedOut, s.seq.step⟩, out := outTimedOut } := rfl

/-- A conversation's packets are sent in parts: the later ones if the outcome after the earlier ones is `Bytes`. -/
theorem conversePackets_append (t : Bool) (total : Nat) (ps qs : List (List Byte)) (done : Nat) (s : State)
    (h : ps = [] → s.out.kind = .bytes) :
    conversePackets t total (ps ++ qs) done s =
      (conversePackets t total ps done s).andThen fun u =>
        if u.out.kind = .bytes then conversePackets t total qs (done + ps.length) u else .ok u := by
  induction ps generalizing done s with
  | nil => simp [conversePackets, h rfl]
  | cons p ps ih =>
    simp only [List.cons_append, conversePackets]
    split
    · rfl
    · cases txrxStep t { s with seq := { s.seq with step := count16 done }, txb := p } with
      | ok v =>
        simp only [Run.andThen_ok]
        split
        · rename_i hv
          rw [ih (done + 1) (recordStep (done + 1) v) fun _ => hv, List.length_cons]
          simp only [Nat.add_assoc, Nat.add_comm 1]
        · rename_i hv; simp [hv]
      | halted v => rfl
      | stuck f => rfl
      | refused x => rfl

/- ### The port and the step -/

/-- A host write that answers a next state fitted its target. -/
theorem hostWrite_eq_next {fits : Bool} {s r : State} : hostWrite fits s = .next r ↔ fits = true ∧ r = s := by
  cases fits <;> simp [hostWrite, eq_comm]

/-- A command word that answers a next state was ignored, was illegal, or ran an operation. -/
theorem runCommand_cases (c : Byte) (s : State) :
    (s.fault.v = true ∧ runCommand c s = .next s) ∨
    (s.fault.v = false ∧ (∃ e, decode c = .error e) ∧ runCommand c s = .next (takeFault .badCmd s)) ∨
    (s.fault.v = false ∧ ∃ i, decode c = .ok i ∧ runCommand c s = exec i s) := by
  unfold runCommand
  cases hf : s.fault.v with
  | true => exact .inl ⟨rfl, rfl⟩
  | false =>
    cases hd : decode c with
    | error e => exact .inr (.inl ⟨rfl, ⟨e, rfl⟩, rfl⟩)
    | ok i => exact .inr (.inr ⟨rfl, i, rfl, rfl⟩)

/-- Every step that answers a next state: the engine is one the rules are for, and it waited, took one host action of
the port, or was reset. -/
theorem step_cases {s r : State} (h : step s = .next r) :
    engineWellFormed s.par = true ∧
    ((s.pending = [] ∧ r = s) ∨
      ∃ a rest, s.pending = a :: rest ∧ runAction a { s with pending := rest } = .next r) := by
  unfold step at h
  by_cases he : engineWellFormed s.par = true
  · rw [if_pos he] at h
    refine ⟨he, ?_⟩
    cases hp : s.pending with
    | nil => rw [hp] at h; cases h; exact .inl ⟨rfl, rfl⟩
    | cons a rest => rw [hp] at h; exact .inr ⟨a, rest, rfl, h⟩
  · rw [if_neg he] at h; cases h

/-- The word the host places is the next command of the step. -/
theorem withFetchWord_pending (s : State) (nbits w : Nat) :
    (s.withFetchWord nbits w).pending = .command (BitVec.ofNat 8 (w % 2 ^ nbits)) :: s.pending := rfl

end Sys2Proof.Machine
end

