-- ==== Sys2Proof/Laws/PerInstr.lean ====
section
/-! SUPPORT. A family of statements about each operation as syntax: its word selects one row of the opcode table. -/

namespace Sys2Proof.Laws.SelectsOneRow

/-- The operation is well formed, exactly one row of the opcode table selects its word, and that row's pattern is the
operation's number (spec 30_encoding.md R60, R61). -/
def Statement (i : Instr) : Prop :=
  i.wellFormed = true ∧
  (opcodeRows.filter (selects (encode i))).map (·.pattern) = [i.command.op.setWidth 8]

theorem quant : Statement .quant := by unfold Statement; decide
theorem pddec : Statement .pddec := by unfold Statement; decide
theorem dutydec (t : Bool) : Statement (.dutydec t) := by unfold Statement; cases t <;> decide
theorem frame : Statement .frame := by unfold Statement; decide
theorem crop : Statement .crop := by unfold Statement; decide
theorem check : Statement .check := by unfold Statement; decide
theorem autofix : Statement .autofix := by unfold Statement; decide
theorem modpd : Statement .modpd := by unfold Statement; decide
theorem modduty : Statement .modduty := by unfold Statement; decide
theorem rxstep (w t : Bool) : Statement (.rxstep w t) := by unfold Statement; cases w <;> cases t <;> decide
theorem txrxstep (t : Bool) : Statement (.txrxstep t) := by unfold Statement; cases t <;> decide
theorem converse (w t : Bool) : Statement (.converse w t) := by unfold Statement; cases w <;> cases t <;> decide
theorem profsel : Statement .profsel := by unfold Statement; decide
theorem xreset : Statement .xreset := by unfold Statement; decide

end Sys2Proof.Laws.SelectsOneRow
end

