-- ==== Sys2Proof/Tests/Slice0.lean ====
section
/-! SUPPORT. Tests of the model by the spec's vectors (95_test_vectors.md), each one operation on a small state, and for
each statement of the certificate a state that meets its hypotheses. -/

namespace Sys2Proof.Tests

open Sys2Proof Sys2Proof.Machine

/-- A field of the next state an outcome answers. -/
def after {α : Type} (o : Host.Outcome State Fault Refusal) (f : State → α) : Option α :=
  match o with
  | .next r => some (f r)
  | .fault _ => none
  | .refused _ => none

/-- The example engine with `PD_EX` selected. -/
def onPd : State := { State.reset with cfg := ⟨0, true, false⟩ }

/-- The example engine with `DT_EX` selected. -/
def onDt : State := { State.reset with cfg := ⟨1, true, false⟩ }

/-- The example engine with a command word at its port. -/
def atPort (c : Byte) : State := { State.reset with pending := [.command c] }

/- ### Ill-formed terms, each refused by its check -/

theorem test_wf_refuses_reserved_op : (⟨0x0, false, false, 0⟩ : Command).wellFormed = false := by decide
theorem test_wf_refuses_reserved_op15 : (⟨0xF, false, false, 0⟩ : Command).wellFormed = false := by decide
theorem test_wf_refuses_high_bits : (⟨0x1, false, false, 2⟩ : Command).wellFormed = false := by decide
theorem test_wf_refuses_w : (⟨0xB, true, false, 0⟩ : Command).wellFormed = false := by decide
theorem test_wf_refuses_t : (⟨0x2, false, true, 0⟩ : Command).wellFormed = false := by decide
theorem test_wf_accepts_flags : (⟨0xA, true, true, 0⟩ : Command).wellFormed = true := by decide
theorem test_profiles_wellFormed : State.reset.profiles.all profileWellFormed = true := by decide
theorem test_profile_refused_crop :
    profileWellFormed { Profile.pdEx with cropTrail := 3 } = false := by decide
theorem test_profile_refused_gap :
    profileWellFormed { Profile.pdEx with bitGapThreshold := 1300 } = false := by decide
theorem test_profile_refused_pulses_overlap :
    profileWellFormed { Profile.pdEx with bitPulse := ⟨300, 500, 1000⟩ } = false := by decide
theorem test_profile_refused_template :
    profileWellFormed { Profile.dtEx with startSeq := List.replicate 10 0xAA } = false := by decide
theorem test_profile_refused_trailer :
    profileWellFormed { Profile.dtEx with trailer := [0xC1] } = false := by decide
theorem test_profile_refused_tick :
    profileWellFormed { Profile.dtEx with dutyPulseSend := 101 } = false := by decide
theorem test_profile_refused_timeouts :
    profileWellFormed { Profile.dtEx with packetContinueTimeout := 500001 } = false := by decide
theorem test_trace_refused_order : traceAdmitted EngineParams.ex [⟨5, 1⟩, ⟨4, 1⟩] = false := by decide
theorem test_trace_equal_times : traceAdmitted EngineParams.ex [⟨100, 1⟩, ⟨100, 2⟩] = true := by decide
theorem test_engine_refused : engineWellFormed { EngineParams.ex with captureMax := 0 } = false := by decide

/- ### Decoding: words written out from spec 30_encoding.md R60, R61 (vectors V-EX1 to V-EX3) -/

theorem test_decode_quant : decode 0b00000001 = .ok .quant := by decide
theorem test_decode_pddec : decode 0b00000010 = .ok .pddec := by decide
theorem test_decode_dutydec : decode 0b00000011 = .ok (.dutydec false) := by decide
theorem test_decode_dutydec_t : decode 0b00100011 = .ok (.dutydec true) := by decide
theorem test_decode_frame : decode 0b00000100 = .ok .frame := by decide
theorem test_decode_crop : decode 0b00000101 = .ok .crop := by decide
theorem test_decode_check : decode 0b00000110 = .ok .check := by decide
theorem test_decode_autofix : decode 0b00000111 = .ok .autofix := by decide
theorem test_decode_modpd : decode 0b00001000 = .ok .modpd := by decide
theorem test_decode_modduty : decode 0b00001001 = .ok .modduty := by decide
theorem test_decode_rxstep_w : decode 0b00011010 = .ok (.rxstep true false) := by decide
theorem test_decode_rxstep_t : decode 0b00101010 = .ok (.rxstep false true) := by decide
theorem test_decode_txrxstep_t : decode 0b00101011 = .ok (.txrxstep true) := by decide
theorem test_decode_converse_w : decode 0b00011100 = .ok (.converse true false) := by decide
theorem test_decode_profsel : decode 0b00001101 = .ok .profsel := by decide
theorem test_decode_xreset : decode 0b00001110 = .ok .xreset := by decide
theorem test_decode_reserved : decode 0x00 = .error .reservedOp ∧ decode 0x3F = .error .reservedOp := by decide
theorem test_decode_high : decode 0x41 = .error .nonzeroHighBits ∧ decode 0x81 = .error .nonzeroHighBits := by decide
theorem test_decode_flags :
    decode 0x11 = .error .illegalFlag ∧ decode 0x22 = .error .illegalFlag ∧ decode 0x1B = .error .illegalFlag := by
  decide
theorem test_decode_stream : decodeBytes [0x3A, 0x0D] = .ok (.rxstep true true, [0x0D]) := by decide
theorem test_table_word : decodeTableWord 8 0x1C = some (.converse true false) ∧ decodeTableWord 8 0x1D = none := by
  decide
theorem test_rows_disjoint :
    opcodeRows.Pairwise fun a b => (a.pattern ^^^ b.pattern) &&& a.mask &&& b.mask ≠ 0 := by decide

/- ### One step of each operation -/

/-- V-Q1: 250 / 100 ties up. -/
theorem test_quant_tie : after (exec .quant { onDt with op := ⟨250, 0⟩ }) (·.tq) = some ⟨3, 50⟩ := by decide
/-- V-Q8: no profile after reset. -/
theorem test_quant_no_profile : after (exec .quant State.reset) (·.fault) = some ⟨true, 2⟩ := by decide
/-- V-PD1, the document's example. -/
theorem test_pddec_two_bits :
    after (exec .pddec { onPd with cap := [9800, 2450, 500, 700, 500, 1300, 1300, 400] }) (fun r => (r.out, r.pd)) =
      some (⟨.badPacket, 5, 2, 2⟩, ⟨2, 2, 7, true⟩) := by decide
/-- V-PD6: the gap threshold. -/
theorem test_pddec_threshold :
    after (exec .pddec { onPd with cap := [9800, 2450, 500, 1000, 500, 1000, 500, 1000, 500, 1000,
      500, 1001, 500, 1001, 500, 1001, 500, 1001, 1300] }) (·.sym) = some [.byte 0xF0] := by decide
/-- V-DT5, the worked example of R120. -/
theorem test_dutydec_byte :
    after (exec (.dutydec true) { onDt with cap := [40, 160, 40, 160, 40, 60, 40, 160, 40] })
      (fun r => (r.sym, String.ofList (r.trace.map traceChar))) = some ([.byte 0xA5], "|-|-||-|- ") := by decide
/-- V-DT9: a long gap completes the byte and is signalled. -/
theorem test_dutydec_long_gap :
    after (exec (.dutydec false) { onDt with cap := [40, 160, 40, 15001, 40] }) (·.sym) =
      some [.byte 0xFD, .longGap, .byte 0xFF] := by decide
/-- V-FR8: 0x7D 0xE0 destuffs to 0xC0. -/
theorem test_frame_destuffs :
    after (exec .frame { onDt with sym := (Profile.dtEx.startSeq ++ [0x7D, 0xE0, 2, 3, 4, 0xC1]).map .byte }) (·.rep) =
      some [⟨.chkfail, 0, [.valid 0xC0, .valid 2, .valid 3, .valid 4]⟩, ⟨.finish, 0, []⟩] := by decide
/-- V-FR18: noise before a packet, noise after it. -/
theorem test_frame_noise :
    after (exec .frame { onDt with sym :=
      [.byte 0x55, .longGap, .byte 0x44, .longGap] ++
        (Profile.dtEx.startSeq ++ [0x01, 0x57, 0xF6, 0xC2, 0xC1, 0x33]).map .byte }) (fun r => r.rep.map (·.kind)) =
      some [.noise2, .ok, .noise1, .finish] := by decide
/-- V-CR1. -/
theorem test_crop : after (exec .crop { onPd with sym := [.byte 0x10, .byte 0x20, .byte 0x30, .byte 0x40] }) (·.pay) =
    some [.valid 0x20, .valid 0x30] := by decide
/-- V-CR3: too short. -/
theorem test_crop_short : after (exec .crop { onPd with sym := [.byte 0x10] }) (·.out) =
    some ⟨.badPacket, 10, 1, 2⟩ := by decide
/-- E1, the golden vector; V-EX7: no profile needed. -/
theorem test_check_golden : after (exec .check { State.reset with op := ⟨0x0157, 0⟩ }) (·.res) =
    some ⟨true, 0xF6C2⟩ := by decide
/-- V-RC1: all masks. -/
theorem test_check_all_ones : after (exec .check { State.reset with op := ⟨0xFFFF, 0⟩ }) (·.res) =
    some ⟨true, 0x890C⟩ := by decide
/-- V-RC6: an extra 1 in the data. -/
theorem test_autofix_repairs : after (exec .autofix { State.reset with op := ⟨0x015F, 0xF6C2⟩ }) (·.res) =
    some ⟨true, 0x0157⟩ := by decide
/-- V-RC8: a cleared bit is not repaired. -/
theorem test_autofix_none : after (exec .autofix { State.reset with op := ⟨0x0156, 0xF6C2⟩ }) (·.res) =
    some ⟨false, 0⟩ := by decide
/-- V-MO1. -/
theorem test_modpd : after (exec .modpd { onPd with txb := [0x02] }) (fun r => r.emit.map entryDuration) =
    some [9800, 2450, 500, 700, 500, 1300, 500, 700, 500, 700, 500, 700, 500, 700, 500, 700, 500, 700, 1300, 400] := by
  decide
/-- V-MO8: the capacity test uses the worst case. -/
theorem test_modduty_overflow :
    after (exec .modduty { onDt with par := { EngineParams.ex with emitMax := 18 }, txb := [0xFF] }) (·.fault) =
      some ⟨true, 6⟩ := by decide
/-- V-MO5, the channel view of `[7F, FE]` (V-DT4). -/
theorem test_modduty : after (exec .modduty { onDt with txb := [0x7F, 0xFE] }) (fun r => channelView r.emit) =
    some [40, 760, 40, 160, 40, 60, 40, 860] := by decide
/-- V-EX4: the step reset comes before the profile test. -/
theorem test_rxstep_no_profile :
    after (exec (.rxstep false false) { State.reset with cap := [1] }) (fun r => (r.cap, r.fault)) =
      some ([], ⟨true, 2⟩) := by decide
/-- V-SQ2: an arrival at the limit itself is too late. -/
theorem test_rxstep_at_limit :
    after (exec (.rxstep false false) { onPd with arrivals := [[⟨40000, 500⟩]] }) (fun r => (r.out, r.seq.st)) =
      some (⟨.timedOut, 1, 0, 0⟩, .timedOut) := by decide
/-- The empty transmission of V-MO2 is handed to the port, and no answer comes. -/
theorem test_txrxstep_sends :
    after (exec (.txrxstep false) onPd) (fun r => (r.port.sent, r.out.kind)) =
      some ([[.bare 9800, .bare 2450, .bare 1300, .bare 400]], .timedOut) := by decide
/-- R214, R216: a timeout in the first of two steps ends the conversation. -/
theorem test_converse_aborts :
    after (exec (.converse false false) { State.reset with cmdList := ⟨0, true, [[0x02], [0x03]]⟩ })
      (fun r => (r.conv, r.txb, r.port.sent.length, r.results.length)) = some (⟨1, true⟩, [0x02], 1, 1) := by decide
/-- R214: a packet longer than `TXB` faults before its step. -/
theorem test_converse_overflow :
    after (exec (.converse false false) { State.reset with cmdList := ⟨0, true, [List.replicate 33 0x02]⟩ })
      (fun r => (r.fault, r.txb, r.conv.done)) = some (⟨true, 7⟩, [], 0) := by decide
/-- V-EX5. -/
theorem test_profsel_beyond : after (exec .profsel { State.reset with op := ⟨2, 0⟩ }) (fun r => (r.fault, r.cfg)) =
    some (⟨true, 2⟩, ⟨0, false, false⟩) := by decide
theorem test_profsel : after (exec .profsel { State.reset with op := ⟨1, 0⟩ }) (·.cfg) =
    some ⟨1, true, false⟩ := by decide
/-- R262: configuration, operands and `SEQ.step` survive the step reset. -/
theorem test_xreset :
    after (exec .xreset { onPd with cap := [1], op := ⟨3, 4⟩, seq := ⟨.decoded, 5⟩, capDev := ⟨false, [7]⟩ })
      (fun r => (r.cap, r.op, r.seq, r.capDev, r.cfg)) = some ([], ⟨3, 4⟩, ⟨.idle, 5⟩, ⟨true, []⟩, ⟨0, true, false⟩) := by
  decide
/-- V-EX6: commands after a fault are ignored. -/
theorem test_step_faulted : after (step { atPort 0x0E with fault := ⟨true, 3⟩, cap := [1] })
    (fun r => (r.fault, r.cap, r.pending)) = some (⟨true, 3⟩, [1], []) := by decide
/-- The table word the host places is what the next step runs. -/
theorem test_step_fetch : after (step (State.reset.withFetchWord 8 0x0D)) (·.cfg) = some ⟨0, true, false⟩ := by decide

/- ### States that meet the hypotheses of the statements -/

theorem witness_documentCoder : documentCoder EngineParams.ex := by unfold documentCoder; decide
theorem witness_documentFraming : documentFraming EngineParams.ex := by unfold documentFraming; decide
theorem witness_documentDuty : documentDuty EngineParams.ex := by unfold documentDuty; decide
theorem witness_pd : hasProfile .pd onPd .pdEx := by unfold hasProfile; decide
theorem witness_dt : hasProfile .duty onDt .dtEx := by unfold hasProfile; decide

/-- R63: faulted or not; each kind of illegal word at its boundary; legal words at theirs. -/
theorem witness_IllegalWordFaults :
    (∀ c ∈ [(0x00 : Byte), 0x0F, 0x41, 0x81, 0x11, 0x1B, 0x21, 0x2D],
      engineWellFormed (atPort c).par = true ∧ (atPort c).pending = [.command c] ∧ (atPort c).fault.v = false ∧
      ∃ e, decode c = .error e) ∧
    (∀ c ∈ [(0x01 : Byte), 0x0E, 0x23, 0x3A, 0x2B, 0x3C],
      engineWellFormed (atPort c).par = true ∧ (atPort c).fault.v = false ∧ ∃ i, decode c = .ok i) ∧
    ({ atPort 0x01 with fault := ⟨true, 1⟩ } : State).fault.v = true := by
  refine ⟨?_, ?_, rfl⟩ <;> intro c hc <;> fin_cases hc <;> refine ⟨by decide, by decide, ?_⟩
  all_goals first | exact ⟨rfl, _, rfl⟩ | exact ⟨_, rfl⟩

theorem witness_StepRunsTheCommandedOperation :
    engineWellFormed (atPort 0x06).par = true ∧ (atPort 0x06).pending = [.command 0x06] ∧
    (atPort 0x06).fault.v = false ∧ decode 0x06 = .ok .check ∧ Instr.wellFormed .check = true ∧
    engineWellFormed State.reset.par = true ∧ State.reset.pending = [] := by decide

/-- Every host write, just fitting and (the operand) just not. -/
theorem witness_HostWritesLandOrAreRefused :
    (∀ a ∈ [HostAction.setOpA 4294967295, .setOpB 0, .setCap [1], .setSym [.endMark], .setTxb [1],
        .setCommandList ⟨1, false, []⟩, .loadProfile 1 .pdEx],
      engineWellFormed State.reset.par = true ∧ ({ State.reset with pending := [a] } : State).pending = [a] ∧
      after (step { State.reset with pending := [a] }) (·.pending) = some []) ∧
    ¬(4294967296 < 2 ^ EngineParams.ex.durW) := by decide

theorem witness_HardResetLeavesTheTable :
    engineWellFormed State.reset.par = true ∧
    ({ onPd with pending := [.hardReset], cap := [1], fault := ⟨true, 4⟩ } : State).pending = [.hardReset] := by decide

theorem witness_FaultStaysUntilHardReset :
    (∃ r, step { atPort 0x0E with fault := ⟨true, 4⟩ } = .next r) ∧
    (∃ r, step { State.reset with fault := ⟨true, 4⟩, pending := [.setOpA 1] } = .next r) ∧
    (∃ r, step { State.reset with fault := ⟨true, 4⟩, pending := [.hardReset] } = .next r) :=
  ⟨⟨_, rfl⟩, ⟨_, rfl⟩, ⟨_, rfl⟩⟩

theorem witness_UnitsFaultWithoutTheirProfile :
    State.reset.cfg.valid = false ∧ selectedProfile onPd = some .pdEx ∧ selectedProfile onDt = some .dtEx := by decide

/-- `DT_EX` with a tick of 0: well formed but for it. -/
def zeroTick : Profile := { Profile.dtEx with tickLen := 0 }

/-- The example's `PD_EX` has a zero tick; a `DUTY` row with one, alone and in a step that captures a pulse, with and
without a packet to send that just fits. -/
theorem witness_ZeroTickFaults :
    selectedProfile onPd = some .pdEx ∧ Profile.pdEx.tickLen = 0 ∧
    selectedProfile { onDt with profiles := [.pdEx, zeroTick], arrivals := [[⟨100, 40⟩]] } = some zeroTick ∧
    profileWellFormed { zeroTick with tickLen := zeroTick.dutyPulseSend } = true ∧
    traceAdmitted EngineParams.ex [⟨100, 40⟩] = true ∧
    (∀ w : Bool, capture EngineParams.ex zeroTick (if w then none else some zeroTick.replyTimeout) [⟨100, 40⟩]
      ⟨[], [], ⟨false, []⟩⟩ = (⟨[40], [40], ⟨false, []⟩⟩, .captured false)) ∧
    [(2 : Byte)].length * (9 + zeroTick.dutyStopTicks.toNat) ≤ 10 := by decide

/-- A `PD` row with the usual unused tick of 0 and one with a tick, a `DUTY` row with a bad template, and one with a zero
tick whose pulse is 0 too; a zero tick alone is not ill-formed. -/
theorem witness_IllFormedProfileIsRefused :
    selectedProfile { onPd with profiles := [{ Profile.pdEx with cropTrail := 0 }] } =
      some { Profile.pdEx with cropTrail := 0 } ∧
    illFormed { Profile.pdEx with cropTrail := 0 } ∧ illFormed { Profile.pdEx with cropTrail := 0, tickLen := 1 } ∧
    illFormed { Profile.dtEx with startSeq := [] } ∧
    illFormed { Profile.dtEx with tickLen := 0, dutyPulseSend := 0 } ∧ ¬illFormed zeroTick := by
  unfold illFormed; decide

/-- A feedback that folds, and the document's constants. -/
theorem witness_MaskSequenceIsTheTable :
    ({ EngineParams.ex with feedback := 0x10001 } : EngineParams).feedback.getLsbD 16 = true ∧
    documentCoder EngineParams.ex := by unfold documentCoder; decide

/-- A tie (150 on a tick of 100) and the shortest tick. -/
theorem witness_QuantWritesNearestTickCount :
    selectedProfile { onDt with op := ⟨150, 0⟩ } = some .dtEx ∧ profileWellFormed .dtEx = true ∧
    profileWellFormed { Profile.dtEx with tickLen := 1, dutyPulseSend := 1 } = true ∧ 1 ≤ Profile.dtEx.tickLen := by
  decide

/-- The shortest tick, a tie, and Durations at the end of their width. -/
theorem witness_QuantizerWidthsAndRanges :
    (1 ≤ 1 ∧ (255 : Nat) < 2 ^ 8) ∧ (1 ≤ 100 ∧ (100 : Nat) < 2 ^ 7 ∧ 2 * 50 = 100) ∧ (511 : Nat) < 2 ^ 9 := by decide

/-- A zero check bit 0 of `check(0x0157)` = 0xF6C2, a zero data bit 3, one bits to clear, valid and repairable pairs. -/
theorem witness_AutofixRepairLaws :
    documentCoder EngineParams.ex ∧ (0x0157 : Half).getLsbD 3 = false ∧
    (checkValue EngineParams.ex 0x0157).getLsbD 0 = false ∧ (checkValue EngineParams.ex 0x0157).getLsbD 15 = true ∧
    oneBitCleared 0x0157 0x0156 ∧ oneBitCleared 0xF6C2 0xF6C0 ∧ clearsTo 0x015F 0xF6C2 0x0157 0xF6C2 := by
  refine ⟨witness_documentCoder, by decide, by decide, by decide, ⟨0, by decide⟩, ⟨1, by decide⟩, ?_⟩
  exact .inr (.inl ⟨⟨3, by decide⟩, rfl⟩)

/-- An emission that just fits and one that is one byte too long. -/
theorem witness_ModpdLaysOutTheSlots :
    hasProfile .pd { onPd with par := { EngineParams.ex with emitMax := 20 }, txb := [2] } .pdEx ∧
    16 * [(2 : Byte)].length + 4 ≤ 20 ∧ 20 < 16 * [(2 : Byte), 3].length + 4 := by unfold hasProfile; decide

theorem witness_PddecInvertsModpd :
    hasProfile .pd { onPd with par := { EngineParams.ex with emitMax := 20, symMax := 1 }, txb := [2] } .pdEx ∧
    16 * [(2 : Byte)].length + 4 ≤ 20 ∧ [(2 : Byte)].length ≤ 1 := by unfold hasProfile; decide

theorem witness_PddecFinalValues :
    ∃ r, exec .pddec { onPd with cap := [9800, 2450, 1300] } = .next r ∧ r.fault.v = false ∧ r.out.kind = .bytes :=
  ⟨_, rfl, rfl, rfl⟩

theorem witness_PddecChangesOnlyItsOutputs : hasProfile .pd { onPd with cap := [9800, 2450, 7] } .pdEx := by
  unfold hasProfile; decide

/-- Each clause at a bound of its interval (V-PD5, V-PD9). -/
theorem witness_PddecValidatesTheStartPair :
    hasProfile .pd onPd .pdEx ∧ ¬(Profile.pdEx.startPulse.min ≤ 8999 ∧ 8999 ≤ Profile.pdEx.startPulse.max) ∧
    ¬(Profile.pdEx.startPulse.min ≤ 11001 ∧ 11001 ≤ Profile.pdEx.startPulse.max) ∧
    (Profile.pdEx.startPulse.min ≤ 9000 ∧ 9000 ≤ Profile.pdEx.startPulse.max) ∧
    ¬(Profile.pdEx.startGap.min ≤ 3001 ∧ 3001 ≤ Profile.pdEx.startGap.max) := by unfold hasProfile; decide

/-- Pairs at the bounds and at the threshold, none of them as sent (V-PD4, V-PD6). -/
def edgePairs : List (Nat × Nat) := [(300, 300), (650, 1000), (300, 1001), (650, 1600)]

theorem witness_edgePairs :
    within Profile.pdEx.startPulse 9000 ∧ within Profile.pdEx.startGap 3000 ∧ (∀ x ∈ edgePairs, goodPair .pdEx x) ∧
    readBits .pdEx edgePairs = [false, false, true, true] ∧ partialByte (readBits .pdEx edgePairs) = 0x0C ∧
    wholeBytes (readBits .pdEx (edgePairs ++ edgePairs)) = [0xCC] := by unfold within goodPair within; decide

/-- After the edge pairs: a pulse in neither interval, a pulse at the end of the input, a gap just too long (V-PD7,
V-PD8, V-PD9). -/
theorem witness_PddecNamesTheFirstBadDuration :
    hasProfile .pd { onPd with cap := 9000 :: 3000 :: pairDurations edgePairs ++ 651 :: [] } .pdEx ∧
    ¬within Profile.pdEx.bitPulse 651 ∧ ¬within Profile.pdEx.stopPulse 651 ∧ within Profile.pdEx.bitPulse 650 ∧
    ¬(Profile.pdEx.bitGapMin ≤ 1601 ∧ 1601 ≤ Profile.pdEx.bitGapMax) ∧ edgePairs.length / 8 ≤ 0 := by
  unfold hasProfile within; decide

/-- Eight bits with a stop pulse at its bound and more after it, four bits to the end of the input. -/
theorem witness_PddecRefusesAPartialByte :
    hasProfile .pd { onPd with cap :=
      9000 :: 3000 :: pairDurations (edgePairs ++ edgePairs) ++ (some 1500).toList ++ [77] } .pdEx ∧
    within Profile.pdEx.stopPulse 1500 ∧ (edgePairs ++ edgePairs).length % 8 = 0 ∧
    (edgePairs ++ edgePairs).length / 8 ≤ EngineParams.ex.symMax ∧
    hasProfile .pd { onPd with cap := 9000 :: 3000 :: pairDurations edgePairs ++ (none : Option Nat).toList ++ [] } .pdEx ∧
    edgePairs.length % 8 ≠ 0 := by unfold hasProfile within; decide

/-- Both kinds; a duty emission that just fits. -/
theorem witness_AirTimeOfEmissions :
    hasProfile .pd { onPd with txb := [2] } .pdEx ∧ 16 * [(2 : Byte)].length + 4 ≤ 1024 ∧
    hasProfile .duty { onDt with par := { EngineParams.ex with emitMax := 19 }, txb := [2] } .dtEx ∧
    [(2 : Byte)].length * (9 + Profile.dtEx.dutyStopTicks.toNat +
      (if Profile.dtEx.dutyPulseSend < Profile.dtEx.tickLen then 9 else 0)) ≤ 19 := by unfold hasProfile; decide

/-- Just fitting and not, and a pulse as long as the tick. -/
theorem witness_ModdutyEntryCount :
    hasProfile .duty { onDt with txb := [2] } .dtEx ∧ 1 * (9 + Profile.dtEx.dutyStopTicks.toNat + 9) ≤ 19 ∧
    18 < 1 * (9 + Profile.dtEx.dutyStopTicks.toNat + 9) ∧
    profileWellFormed { Profile.dtEx with dutyPulseSend := 100 } = true := by unfold hasProfile; decide

theorem witness_DutydecInvertsModduty :
    hasProfile .duty { onDt with par := { EngineParams.ex with longGap := 1000 }, txb := [0xA5] } .dtEx ∧
    documentDuty { EngineParams.ex with longGap := 1000 } ∧ Profile.dtEx.dutyPulseSend < Profile.dtEx.tickLen ∧
    (9 + Profile.dtEx.dutyStopTicks.toNat) * Profile.dtEx.tickLen ≤ 1000 ∧
    [(0xA5 : Byte)].length * (18 + Profile.dtEx.dutyStopTicks.toNat) ≤ 1024 := by unfold hasProfile documentDuty; decide

/-- With room for every symbol, and with a full `SYM`. -/
theorem witness_DutydecChangesOnlyItsOutputs :
    hasProfile .duty { onDt with cap := [40] } .dtEx ∧ [40].length + 1 ≤ EngineParams.ex.symMax ∧
    hasProfile .duty { onDt with par := { EngineParams.ex with symMax := 0 }, cap := [40] } .dtEx := by
  unfold hasProfile; decide

/-- Off the grid in mid-byte (R125), and the tail of a byte off the grid, which completes it (R124). -/
theorem test_dutydec_mid_byte :
    after (exec (.dutydec false) { onDt with cap := [40, 160, 40, 191, 40, 160, 40, 700, 40, 107] }) (·.sym) =
      some [.byteError, .byte 0xFD, .byteError] := by decide

/-- Two pairs on the grid, of two ticks and one, the first at the margin: three ticks of a byte. -/
def gridPairs : List ((Nat × Nat) × Nat) := [((40, 190), 2), ((40, 60), 1)]

/-- The clauses after them at their limits: a gap just long, six ticks to reach nine, five to reach eight, no tick, the
margin just passed; and a fresh byte. -/
theorem witness_DutydecClassifiesAPair :
    hasProfile .duty { onDt with cap := pairDurations (gridPairs.map (·.1)) ++ [40, 560] } .dtEx ∧
    documentDuty EngineParams.ex ∧ 2 ≤ EngineParams.ex.symMax ∧ (gridPairs.map (·.2)).sum = 3 ∧ ([] : List Nat).sum ≤ 8 ∧
    (∀ x ∈ gridPairs, onGrid { onDt with cap := pairDurations (gridPairs.map (·.1)) ++ [40, 560] } .dtEx x.1 x.2) ∧
    longPair EngineParams.ex 40 15001 ∧ ¬longPair EngineParams.ex 40 15000 ∧
    quantize .halfUp (40 + 560) 100 = (6, 0) ∧ quantize .halfUp (40 + 460) 100 = (5, 0) ∧
    quantize .halfUp (10 + 20) 100 = (0, 30) ∧ quantize .halfUp (40 + 191) 100 = (2, 31) ∧
    Profile.dtEx.tickMargin = 30 := by
  refine ⟨by unfold hasProfile; decide, witness_documentDuty, by decide, by decide, by decide, ?_,
    by unfold longPair; decide, by unfold longPair; decide, by decide, by decide, by decide, by decide, by decide⟩
  intro x hx
  simp only [gridPairs, List.mem_cons, List.not_mem_nil, or_false] at hx
  rcases hx with rfl | rfl
  · exact ⟨by unfold longPair; decide, by decide, 30, by decide, rfl⟩
  · exact ⟨by unfold longPair; decide, by decide, 0, by decide, rfl⟩

/-- `DT_EX` with a trailer byte. -/
def trailerDt : Profile := { Profile.dtEx with trailer := [0xC2] }

/-- Noise closed by a `LongGap`, a trailer byte, and pieces of every kind with every end of a packet (V-FR10 to V-FR14,
V-FR24). -/
theorem witness_FrameDestuffsAndClassifies :
    hasProfile .duty { onDt with profiles := [.pdEx, trailerDt] } trailerDt ∧ documentCoder EngineParams.ex ∧
    documentFraming EngineParams.ex ∧ trailerDt.term ≠ EngineParams.ex.esc ∧
    closedLead EngineParams.ex [.byte 0x55, .longGap] ∧ closedLead EngineParams.ex [] ∧
    (∀ y ∈ [Symbol.byte 0xC2, .longGap], passedOver trailerDt y) ∧
    (∀ p ∈ [PayPiece.plain 0xC0, .escaped0, .escaped1, .damaged, .badEscape (.byte 0xC1), .badEscape (.byte 0x7D),
      .badEscape .byteError], pieceLawful EngineParams.ex trailerDt p) ∧
    (∀ fin ∈ [PacketEnd.terminator, .longGap, .dataEnd, .escapeLongGap, .escapeDataEnd],
      ([PayPiece.plain 0xC0].map (pieceEntry EngineParams.ex) ++ endEntries fin).length ≤
        EngineParams.ex.payloadMax) := by
  refine ⟨by unfold hasProfile; decide, witness_documentCoder, witness_documentFraming, by decide,
    by unfold closedLead; decide, by unfold closedLead; decide, ?_, ?_, by decide⟩
  · intro y hy
    simp only [List.mem_cons, List.not_mem_nil, or_false] at hy
    rcases hy with rfl | rfl
    · exact .inr ⟨0xC2, by decide, rfl⟩
    · exact .inl rfl
  · intro p hp
    simp only [List.mem_cons, List.not_mem_nil, or_false] at hp
    rcases hp with rfl | rfl | rfl | rfl | rfl | rfl | rfl <;> simp only [pieceLawful] <;> decide

/-- Failed packets: a mismatch at position 0 and at position 12 with a skipped rest, one that is itself a boundary, and a
start sequence the end of the data cuts (V-FR15 to V-FR17, V-FR20, V-FR22). -/
theorem witness_FrameReportsOneMismatchOnce :
    hasProfile .duty onDt .dtEx ∧ failedWhole .dtEx ⟨[], 0, [.byte 0x55, .byteError, .byte 0xC1]⟩ ∧
    failedWhole .dtEx ⟨[.longGap], 12, [.byte 0x99, .longGap]⟩ ∧ failedWhole .dtEx ⟨[], 3, [.longGap]⟩ ∧
    failedCut .dtEx ⟨[], 6, []⟩ ∧ failedCut .dtEx ⟨[], 1, [.byte 0x99]⟩ := by
  have m0 : mismatch .dtEx 0 (.byte 0x55) := ⟨by decide, by decide, fun _ => by unfold passedOver; decide⟩
  have m12 : mismatch .dtEx 12 (.byte 0x99) := ⟨by decide, by decide, fun h => absurd h (by decide)⟩
  have m3 : mismatch .dtEx 3 .longGap := ⟨by decide, by decide, fun h => absurd h (by decide)⟩
  have m1 : mismatch .dtEx 1 (.byte 0x99) := ⟨by decide, by decide, fun h => absurd h (by decide)⟩
  refine ⟨witness_dt, ⟨by simp, by decide, .inr ⟨.byte 0x55, [.byteError], .byte 0xC1, rfl, m0, ?_, .inr rfl⟩⟩,
    ⟨by simp [passedOver], by decide, .inr ⟨.byte 0x99, [], .longGap, rfl, m12, ?_, .inl rfl⟩⟩,
    ⟨by simp, by decide, .inl ⟨.longGap, rfl, m3, .inl rfl⟩⟩, ⟨by simp, by decide, .inl ⟨rfl, by decide⟩⟩,
    ⟨by simp, by decide, .inr ⟨.byte 0x99, [], rfl, m1, ?_⟩⟩⟩ <;> unfold endsPacket <;> decide

theorem witness_FrameFinalValues :
    hasProfile .duty { onDt with sym := [.byteError, .longGap, .byte 0xAA] } .dtEx ∧
    [Symbol.byteError, .longGap, .byte 0xAA].length ≤ EngineParams.ex.payloadMax ∧
    Symbol.endMark ∉ [Symbol.byteError, .longGap, .byte 0xAA] := by unfold hasProfile; decide

/-- A stored `END` after other symbols; for a payload of four after a closed packet, four pieces and each way to ask for a
fifth entry. -/
theorem witness_FrameFaultsOnBadInput :
    hasProfile .duty { onDt with sym := [.byteError, .endMark] } .dtEx ∧ Symbol.endMark ∉ [Symbol.byteError] ∧
    [Symbol.byteError].length ≤ 4 ∧
    hasProfile .duty { onDt with par := { EngineParams.ex with payloadMax := 4 } } .dtEx ∧
    documentFraming { EngineParams.ex with payloadMax := 4 } ∧ Profile.dtEx.term ≠ EngineParams.ex.esc ∧
    closedLead { EngineParams.ex with payloadMax := 4 } [.byte 0x55, .longGap] ∧
    [PayPiece.plain 1, .escaped0, .damaged, .badEscape (.byte 5)].length = 4 ∧
    pieceLawful EngineParams.ex .dtEx (.badEscape (.byte 5)) ∧ pieceLawful EngineParams.ex .dtEx (.plain 1) ∧
    oneEntryMore EngineParams.ex .dtEx [.byte 1] [.endMark] 1 ∧
    oneEntryMore EngineParams.ex .dtEx [.byte 0x7D, .longGap] [.byte 1] 1 ∧
    oneEntryMore EngineParams.ex .dtEx [.byte 0x7D] [] 0 := by
  refine ⟨by unfold hasProfile; decide, by decide, by decide, by unfold hasProfile; decide,
    by unfold documentFraming; decide, by decide, by unfold closedLead; decide, by decide,
    by simp only [pieceLawful]; decide, by simp only [pieceLawful]; decide,
    .inl ⟨.plain 1, by simp only [pieceLawful]; decide, rfl, rfl⟩, .inr (.inl ⟨rfl, rfl⟩), .inr (.inr ⟨rfl, rfl, rfl⟩)⟩

/-- Just enough bytes, one too few, a payload just too long, a symbol that is no byte. -/
theorem witness_CropCutsLeadAndTrail :
    hasProfile .pd { onPd with sym := [.byte 1, .byte 2] } .pdEx ∧ [(1 : Byte)].length = Profile.pdEx.cropLead.toNat ∧
    [(2 : Byte)].length = Profile.pdEx.cropTrail.toNat ∧ [(1 : Byte)].length < 1 + 1 ∧
    4 < (List.replicate 5 (0 : Byte)).length ∧ (∃ x ∈ [Symbol.longGap], ∀ v, x ≠ .byte v) := by
  refine ⟨by unfold hasProfile; decide, by decide, by decide, by decide, by decide, .longGap, by simp, ?_⟩
  intro v h; cases h

theorem witness_ProfselSelectsARow :
    ({ State.reset with op := ⟨1, 0⟩ } : State).op.a < State.reset.profiles.length ∧
    State.reset.profiles.length ≤ ({ State.reset with op := ⟨2, 0⟩ } : State).op.a := by decide

/-- A profile like `PD_EX` with a short length limit (95_test_vectors.md section 2.8). -/
def shortPd : Profile := { Profile.pdEx with packetLengthTimeout := 20000 }

/-- V-SQ2, V-SQ3, V-SQ5 and V-SQ6: every end of a capture. -/
theorem witness_CaptureFollowsTheTimeRules :
    (capture EngineParams.ex shortPd (some 40000) [⟨40000, 500⟩] ⟨[], [], ⟨false, []⟩⟩).2 = .nothingReceived ∧
    capture EngineParams.ex shortPd (some 40000) [⟨100, 500⟩, ⟨5100, 600⟩, ⟨10101, 700⟩] ⟨[], [], ⟨false, []⟩⟩ =
      (⟨[500, 600], [500, 600], ⟨false, []⟩⟩, .captured false) ∧
    (capture EngineParams.ex shortPd none [⟨100, 1⟩, ⟨5000, 2⟩, ⟨10000, 3⟩, ⟨15000, 4⟩, ⟨20000, 5⟩, ⟨20100, 6⟩,
      ⟨20101, 7⟩] ⟨[], [], ⟨false, []⟩⟩).2 = .tooLong ∧
    (capture { EngineParams.ex with captureMax := 3 } shortPd none [⟨100, 1⟩, ⟨200, 2⟩, ⟨300, 3⟩]
      ⟨[], [], ⟨false, []⟩⟩).2 = .captured true ∧
    traceAdmitted EngineParams.ex [⟨100, 500⟩, ⟨5100, 600⟩, ⟨10101, 700⟩] = true := by decide

/-- A trace out of order, under both kinds and in a conversation; no trace at all. -/
theorem witness_StopsOfAReceive :
    profileWellFormed .pdEx = true ∧ profileWellFormed .dtEx = true ∧
    traceAdmitted EngineParams.ex (nextTrace { onPd with arrivals := [[⟨5, 1⟩, ⟨4, 1⟩]] }) = false ∧
    selectedProfile { onPd with arrivals := [[⟨5, 1⟩, ⟨4, 1⟩]] } = some .pdEx ∧
    selectedProfile { onDt with arrivals := [[⟨5, 1⟩, ⟨4, 1⟩]] } = some .dtEx ∧
    ({ onPd with cmdList := ⟨1, false, []⟩ } : State).cmdList = ⟨1, false, []⟩ ∧ State.reset.profiles[1]? = some .dtEx ∧
    nextTrace State.reset = [] ∧ 16 * onPd.txb.length + 4 ≤ onPd.par.emitMax ∧
    onDt.txb.length * (18 + Profile.dtEx.dutyStopTicks.toNat) ≤ onDt.par.emitMax := by decide

/-- Nothing at all, and an arrival at the limit. -/
theorem witness_RxstepWithNothingInTime :
    selectedProfile { onPd with arrivals := [[⟨40000, 500⟩]] } = some .pdEx ∧ profileWellFormed .pdEx = true ∧
    traceAdmitted EngineParams.ex (nextTrace { onPd with arrivals := [[⟨40000, 500⟩]] }) = true ∧
    (∀ a, (nextTrace { onPd with arrivals := [[⟨40000, 500⟩]] }).head? = some a → Profile.pdEx.replyTimeout ≤ a.time) ∧
    nextTrace onPd = [] := by
  refine ⟨by decide, by decide, by decide, ?_, rfl⟩
  intro a h
  have : a = ⟨40000, 500⟩ := by simpa [nextTrace] using h.symm
  subst this; decide

/-- What the engine receives in program P1: `[F0, A5, 0F]` after 3000 idle. -/
def peerPd : List Nat := (pdEmission .pdEx ([0xF0] ++ [0xA5] ++ [0x0F])).dropLast

theorem witness_peerPd :
    capturedWhole EngineParams.ex .pdEx false 3000 peerPd ∧ capturedWhole EngineParams.ex .pdEx true 99000 peerPd := by
  unfold capturedWhole; decide +kernel

theorem witness_RxstepReceivesAPulseDistancePacket :
    hasProfile .pd { onPd with arrivals := [arrivalsFrom 3000 peerPd] } .pdEx ∧
    nextTrace { onPd with arrivals := [arrivalsFrom 3000 peerPd] } = arrivalsFrom 3000 peerPd ∧
    [(0xF0 : Byte)].length = Profile.pdEx.cropLead.toNat ∧ [(0x0F : Byte)].length = Profile.pdEx.cropTrail.toNat ∧
    ([(0xF0 : Byte)] ++ [0xA5] ++ [0x0F]).length ≤ EngineParams.ex.symMax ∧
    [(0xA5 : Byte)].length ≤ EngineParams.ex.payloadMax := by
  refine ⟨by unfold hasProfile; decide, rfl, by decide, by decide, by decide, by decide⟩

/-- The bytes on the line of program P4: the template, the pair 0157 F6C2, the terminator. -/
def bytesDt : List Byte :=
  Profile.dtEx.startSeq ++ [(0x01 : Byte), 0x57, 0xF6, 0xC2].flatMap (stuffByte EngineParams.ex) ++ [0xC1]

/-- What the engine receives of them. -/
def peerDt : List Nat := (channelView (dutyEmission false .dtEx bytesDt)).dropLast

theorem witness_RxstepReceivesAFramedPacket :
    hasProfile .duty { onDt with arrivals := [arrivalsFrom 2000 peerDt] } .dtEx ∧
    capturedWhole EngineParams.ex .dtEx false 2000 peerDt ∧
    (9 + Profile.dtEx.dutyStopTicks.toNat) * Profile.dtEx.tickLen ≤ EngineParams.ex.longGap ∧
    Profile.dtEx.dutyPulseSend < Profile.dtEx.tickLen ∧ Profile.dtEx.term ≠ EngineParams.ex.esc ∧
    Profile.dtEx.term = 0xC1 ∧ (∀ v ∈ [(0x01 : Byte), 0x57, 0xF6, 0xC2], carriable EngineParams.ex .dtEx v) ∧
    bytesDt.length ≤ EngineParams.ex.symMax := by
  refine ⟨by unfold hasProfile; decide, by unfold capturedWhole; decide +kernel, by decide, by decide, by decide,
    by decide, by unfold carriable; decide, by decide⟩

/-- Duty: a lone pulse is one byte 0xFF, a mismatch at position 0, in a receive and in an answer. Pulse-distance: a bad
start pulse keeps its reason, a packet of no byte is too short to crop, in a receive and in an answer. -/
theorem witness_DutyStepOutcome :
    selectedProfile { onDt with arrivals := [[⟨100, 40⟩]] } = some .dtEx ∧ profileWellFormed .dtEx = true ∧
    (∀ i ∈ [Instr.rxstep false false, .txrxstep true],
      after (exec i { onDt with arrivals := [[⟨100, 40⟩]] }) (fun r => (r.out, r.fault.v, r.frm.mmValid, r.sym)) =
        some (⟨.badPacket, 9, 0, 0xFF⟩, false, true, [.byte 0xFF])) ∧
    selectedProfile { onPd with arrivals := [[⟨100, 8999⟩]] } = some .pdEx ∧ profileWellFormed .pdEx = true ∧
    (∀ i ∈ [Instr.rxstep true false, .txrxstep false],
      after (exec i { onPd with arrivals := [[⟨100, 8999⟩]] }) (fun r => (r.out, r.fault.v)) =
        some (⟨.badPacket, 1, 0, 8999⟩, false) ∧
      after (exec i { onPd with arrivals := [[⟨100, 9800⟩, ⟨200, 2450⟩, ⟨300, 1300⟩]] }) (fun r => (r.out, r.fault.v)) =
        some (⟨.badPacket, 10, 0, 2⟩, false)) := by decide

/-- V-SQ4: the boundary one later than the limit. -/
theorem witness_RxstepReportsTooLong :
    selectedProfile { onPd with profiles := [shortPd] } = some shortPd ∧ profileWellFormed shortPd = true ∧
    traceAdmitted EngineParams.ex [⟨100, 1⟩, ⟨5000, 2⟩, ⟨10000, 3⟩, ⟨15000, 4⟩, ⟨15101, 5⟩] = true ∧
    (capture EngineParams.ex shortPd (some shortPd.replyTimeout)
      [⟨100, 1⟩, ⟨5000, 2⟩, ⟨10000, 3⟩, ⟨15000, 4⟩, ⟨15101, 5⟩] ⟨[], [], ⟨false, []⟩⟩).2 = .tooLong := by decide

/-- Both kinds, no answer. -/
theorem witness_TxrxstepSendsBeforeItWaits :
    selectedProfile { onPd with txb := [2] } = some .pdEx ∧ 16 * [(2 : Byte)].length + 4 ≤ EngineParams.ex.emitMax ∧
    selectedProfile { onDt with txb := [2] } = some .dtEx ∧ profileWellFormed .dtEx = true ∧
    [(2 : Byte)].length * (18 + Profile.dtEx.dutyStopTicks.toNat) ≤ EngineParams.ex.emitMax ∧
    nextTrace onPd = [] ∧ traceAdmitted EngineParams.ex [] = true := by decide

theorem witness_TxrxstepExchangesPulseDistancePackets :
    hasProfile .pd { onPd with txb := [2], arrivals := [arrivalsFrom 3000 peerPd] } .pdEx ∧
    16 * [(2 : Byte)].length + 4 ≤ EngineParams.ex.emitMax ∧
    nextTrace { onPd with txb := [2], arrivals := [arrivalsFrom 3000 peerPd] } = arrivalsFrom 3000 peerPd ∧
    capturedWhole EngineParams.ex .pdEx false 3000 peerPd :=
  ⟨by unfold hasProfile; decide, by decide, rfl, witness_peerPd.1⟩

/-- A step that ends in a timeout, and captures that just fill `CAP` and just do not. -/
theorem witness_StepFinalValues :
    (∃ r, exec (.rxstep false true) onPd = .next r ∧ r.fault.v = false) ∧
    (∃ r, exec (.txrxstep false) onDt = .next r ∧ r.fault.v = false) ∧
    after (exec (.rxstep false false)
      { onPd with par := { EngineParams.ex with captureMax := 2 }, arrivals := [[⟨100, 9000⟩, ⟨200, 7⟩, ⟨300, 8⟩]] })
      (fun r => (r.fault.v, r.cap, r.capFull)) = some (false, [9000, 7], true) ∧
    after (exec (.rxstep false false)
      { onPd with par := { EngineParams.ex with captureMax := 2 }, arrivals := [[⟨100, 9000⟩]] })
      (fun r => (r.fault.v, r.cap, r.capFull)) = some (false, [9000], false) :=
  ⟨⟨_, rfl, rfl⟩, ⟨_, rfl, rfl⟩, by decide, by decide⟩

/-- Two states that differ in what an earlier operation left. -/
theorem witness_StepsDependOnNothingEarlier :
    ({ onPd with cap := [1], out := outTimedOut, tq := ⟨3, 4⟩ } : State) ≠ onPd ∧
    selectedProfile { onPd with cap := [1], out := outTimedOut, tq := ⟨3, 4⟩ } = selectedProfile onPd := by decide

/-- At reset, and with an outcome of an earlier operation in `OUT`, which goes (R215). -/
theorem witness_ConverseWithNothingToDo :
    State.reset.cmdList = ⟨0, true, []⟩ ∧ 0 < State.reset.profiles.length ∧
    after (exec (.converse false false) { State.reset with out := outTimedOut }) (·.out) = some .clear := by decide

/-- A family beyond the table; a packet just too long, first and after a conversation of one step that ended in `Bytes`. -/
theorem witness_ConverseFaults :
    State.reset.profiles.length ≤ 2 ∧ 0 < State.reset.profiles.length ∧
    EngineParams.ex.txMax < (List.replicate 33 (2 : Byte)).length ∧
    ∃ u, exec (.converse false false)
      { State.reset with cmdList := ⟨0, false, []⟩, arrivals := [arrivalsFrom 0 peerPd] } = .next u ∧ u.fault.v = false ∧ u.out.kind = .bytes :=
  ⟨by decide, by decide, by decide, _, rfl, rfl, rfl⟩

theorem witness_ConverseRunsOneExchange :
    State.reset.profiles[0]? = some .pdEx ∧ Profile.pdEx.kind = .pd ∧ profileWellFormed .pdEx = true ∧
    [(2 : Byte)].length ≤ EngineParams.ex.txMax ∧ 16 * [(2 : Byte)].length + 4 ≤ EngineParams.ex.emitMax ∧
    State.reset.fault.v = false ∧ capturedWhole EngineParams.ex .pdEx false 3000 peerPd ∧
    nextTrace { State.reset with cmdList := ⟨0, true, [[2]]⟩, arrivals := [arrivalsFrom 3000 peerPd] } =
      arrivalsFrom 3000 peerPd :=
  ⟨by decide, by decide, by decide, by decide, by decide, by decide, witness_peerPd.1, rfl⟩

theorem witness_ConverseOpensWithAReceive :
    ({ State.reset with cmdList := ⟨1, false, []⟩ } : State).cmdList = ⟨1, false, []⟩ ∧
    1 < State.reset.profiles.length ∧
    ∃ u, exec (.rxstep false true)
      { State.reset with
        cmdList := ⟨1, false, []⟩, op := ⟨1, 0⟩, cfg := ⟨1, true, true⟩, conv := ⟨0, false⟩, seq := ⟨.idle, 0⟩ } =
          .next u ∧ u.fault.v = false := ⟨rfl, by decide, _, rfl, rfl⟩

/-- R214, R215: each step of a conversation sends its own packet, here the second after an answer to the first. -/
theorem test_converse_sends_each :
    after (exec (.converse false false)
      { State.reset with cmdList := ⟨0, true, [[2], [3]]⟩, arrivals := [arrivalsFrom 0 peerPd] })
      (fun r => (r.conv, r.out.kind, r.port.sent)) =
        some (⟨2, false⟩, .timedOut, [[2], [3]].map fun p => (pdEmission .pdEx p).map .bare) := by rfl

/-- A conversation stopped with a packet left, one that had nothing to do, and a packet that just
fits; conversations before a last packet that end in `Bytes` and in a timeout. -/
theorem witness_ConversationStopsAtTheFirstFailure :
    (∃ r, exec (.converse false false) { State.reset with cmdList := ⟨0, true, [[2], [3]]⟩ } = .next r ∧
      r.fault.v = false ∧ r.results.length < 2) ∧
    (∃ r, exec (.converse false false) State.reset = .next r ∧ r.fault.v = false ∧ r.results.length = 0) ∧
    conversationLength ⟨0, true, [[2], [3]]⟩ < 2 ^ 16 ∧ State.reset.fault.v = false ∧ 0 < State.reset.profiles.length ∧
    (List.replicate 32 (2 : Byte)).length ≤ EngineParams.ex.txMax ∧ [[2], [3]] = [[(2 : Byte)]] ++ [[3]] ∧
    (∃ u, exec (.converse false false)
      { State.reset with cmdList := ⟨0, false, []⟩, arrivals := [arrivalsFrom 0 peerPd] } = .next u ∧
        u.fault.v = false ∧ u.out.kind = .bytes) ∧
    ∃ u, exec (.converse false false) { State.reset with cmdList := ⟨0, true, [[2]]⟩ } = .next u ∧
      u.fault.v = false ∧ u.out.kind ≠ .bytes :=
  ⟨⟨_, rfl, rfl, by decide⟩, ⟨_, rfl, rfl, rfl⟩, by decide, rfl, by decide, by decide, rfl, ⟨_, rfl, rfl, rfl⟩,
    ⟨_, rfl, rfl, by decide⟩⟩

/-- One state that meets all five invariants and has a step. -/
theorem witness_invariants :
    withinCapacity { onPd with txb := [2], pending := [.command 0x08] } ∧
    registersLawful { onPd with txb := [2], pending := [.command 0x08] } ∧
    outcomeLawful { onPd with txb := [2], pending := [.command 0x08] } ∧
    atRest { onPd with txb := [2], pending := [.command 0x08] } ∧
    widthsLawful { onPd with txb := [2], pending := [.command 0x08] } ∧
    ∃ r, step { onPd with txb := [2], pending := [.command 0x08] } = .next r := by
  refine ⟨?_, ?_, rfl, ?_, ?_, ⟨_, rfl⟩⟩
  · unfold withinCapacity; decide
  · unfold registersLawful; decide
  · unfold atRest; decide
  · unfold widthsLawful; decide +kernel

theorem witness_OperationsKeepConfiguration : ∃ r, exec .xreset onPd = .next r := ⟨_, rfl⟩

end Sys2Proof.Tests
end

section
/-! Proofs of the statements of spec 10_state.md. First each unit that reads the profile as what it does under it, then
what reading the profile does when there is none or it is of the other kind, then R16. -/

namespace Sys2Proof.Machine

/- ### The units that read the profile -/

theorem exec_quant (s : State) :
    exec .quant s = (withProfile s fun P =>
      if P.tickLen = 0 then raiseFault .div0 s
      else admitting P (.ok { s with tq :=
        ⟨(quantize s.par.quantTie s.op.a P.tickLen).1, (quantize s.par.quantTie s.op.a P.tickLen).2⟩ })).toOutcome := rfl

theorem exec_pddec (s : State) :
    exec .pddec s = (withKind .pd s fun P => admitting P (pddecCore P s)).toOutcome := rfl

theorem exec_dutydec (t : Bool) (s : State) :
    exec (.dutydec t) s = (withKind .duty s fun P =>
      if P.tickLen = 0 then dutydecCore t P s else admitting P (dutydecCore t P s)).toOutcome := rfl

theorem exec_frame (s : State) :
    exec .frame s = (withKind .duty s fun P => admitting P (frameCore P s)).toOutcome := rfl

theorem exec_crop (s : State) :
    exec .crop s = (withKind .pd s fun P => admitting P (cropCore P s)).toOutcome := rfl

theorem exec_modpd (s : State) :
    exec .modpd s = (withKind .pd s fun P => admitting P (modpdCore P s)).toOutcome := rfl

theorem exec_modduty (s : State) :
    exec .modduty s = (withKind .duty s fun P => admitting P (moddutyCore P s)).toOutcome := rfl

theorem exec_rxstep (w t : Bool) (s : State) :
    exec (.rxstep w t) s = (withProfile (startStep t s) fun P =>
      admitting P (receive t P (if w then none else some P.replyTimeout) (startStep t s))).toOutcome := rfl

theorem exec_txrxstep (t : Bool) (s : State) :
    exec (.txrxstep t) s = (withProfile (startStep t s) fun P =>
      admitting P ((modulate P (startStep t s)).andThen fun s1 =>
        receive t P (some P.replyTimeout) (emitAll s1))).toOutcome := rfl

/- ### No profile, or one of the other kind -/

theorem takeFault_badProfile (s : State) : takeFault .badProfile s = { s with fault := ⟨true, 2⟩ } := rfl

/-- While `CFG.valid` = 0 no row is `P`, whatever `CFG.sel` holds (spec 10_state.md R15). -/
theorem selectedProfile_of_invalid {s : State} (h : s.cfg.valid = false) : selectedProfile s = none := by
  simp [selectedProfile, h]

theorem withProfile_toOutcome_none {s : State} (k : Profile → Run) (h : selectedProfile s = none) :
    (withProfile s k).toOutcome = .next { s with fault := ⟨true, 2⟩ } := by
  rw [withProfile_none h, Run.toOutcome_halted, takeFault_badProfile]

theorem withKind_toOutcome_none {s : State} (kind : Kind) (k : Profile → Run) (h : selectedProfile s = none) :
    (withKind kind s k).toOutcome = .next { s with fault := ⟨true, 2⟩ } := by
  rw [withKind_none h, Run.toOutcome_halted, takeFault_badProfile]

theorem withKind_toOutcome_of_kind_ne {s : State} {P : Profile} {kind : Kind} (k : Profile → Run)
    (h : selectedProfile s = some P) (hkind : P.kind ≠ kind) :
    (withKind kind s k).toOutcome = .next { s with fault := ⟨true, 2⟩ } := by
  rw [withKind_some h, if_neg hkind, Run.toOutcome_halted, takeFault_badProfile]

/-- A unit, run alone, faults where there is no profile to read, and writes nothing else. -/
theorem exec_unit_of_no_profile {s : State} (h : selectedProfile s = none) (t : Bool) :
    ∀ i ∈ [Instr.quant, .pddec, .dutydec t, .frame, .crop, .modpd, .modduty],
      exec i s = .next { s with fault := ⟨true, 2⟩ } := by
  intro i hi
  simp only [List.mem_cons, List.not_mem_nil, or_false] at hi
  rcases hi with rfl | rfl | rfl | rfl | rfl | rfl | rfl
  · exact (exec_quant s).trans (withProfile_toOutcome_none _ h)
  · exact (exec_pddec s).trans (withKind_toOutcome_none _ _ h)
  · exact (exec_dutydec t s).trans (withKind_toOutcome_none _ _ h)
  · exact (exec_frame s).trans (withKind_toOutcome_none _ _ h)
  · exact (exec_crop s).trans (withKind_toOutcome_none _ _ h)
  · exact (exec_modpd s).trans (withKind_toOutcome_none _ _ h)
  · exact (exec_modduty s).trans (withKind_toOutcome_none _ _ h)

/-- An exchange step reads the profile after its reset (spec 46_sequencer.md R210), so the fault comes on top of it. -/
theorem exec_step_of_no_profile {s : State} (h : selectedProfile s = none) (w t : Bool) :
    ∀ i ∈ [Instr.rxstep w t, .txrxstep t],
      exec i s = .next { stepReset s with cfg := { s.cfg with trace := t }, fault := ⟨true, 2⟩ } := by
  have hstart : selectedProfile (startStep t s) = none := by rw [selectedProfile_startStep, h]
  intro i hi
  simp only [List.mem_cons, List.not_mem_nil, or_false] at hi
  rcases hi with rfl | rfl
  · exact (exec_rxstep w t s).trans (withProfile_toOutcome_none _ hstart)
  · exact (exec_txrxstep t s).trans (withProfile_toOutcome_none _ hstart)

theorem exec_pd_unit_under_duty {s : State} {P : Profile} (h : selectedProfile s = some P) (hduty : P.kind = .duty) :
    ∀ i ∈ [Instr.pddec, .crop, .modpd], exec i s = .next { s with fault := ⟨true, 2⟩ } := by
  have hkind : P.kind ≠ .pd := by simp [hduty]
  intro i hi
  simp only [List.mem_cons, List.not_mem_nil, or_false] at hi
  rcases hi with rfl | rfl | rfl
  · exact (exec_pddec s).trans (withKind_toOutcome_of_kind_ne _ h hkind)
  · exact (exec_crop s).trans (withKind_toOutcome_of_kind_ne _ h hkind)
  · exact (exec_modpd s).trans (withKind_toOutcome_of_kind_ne _ h hkind)

theorem exec_duty_unit_under_pd {s : State} {P : Profile} (h : selectedProfile s = some P) (hpd : P.kind = .pd)
    (t : Bool) : ∀ i ∈ [Instr.dutydec t, .frame, .modduty], exec i s = .next { s with fault := ⟨true, 2⟩ } := by
  have hkind : P.kind ≠ .duty := by simp [hpd]
  intro i hi
  simp only [List.mem_cons, List.not_mem_nil, or_false] at hi
  rcases hi with rfl | rfl | rfl
  · exact (exec_dutydec t s).trans (withKind_toOutcome_of_kind_ne _ h hkind)
  · exact (exec_frame s).trans (withKind_toOutcome_of_kind_ne _ h hkind)
  · exact (exec_modduty s).trans (withKind_toOutcome_of_kind_ne _ h hkind)

/-- Settles O8: a unit reads the profile before it does anything else, a step right after its reset, and reading it
faults when none is selected or it is of the other kind. -/
theorem unitsFaultWithoutTheirProfile : Obligations.UnitsFaultWithoutTheirProfile := by
  intro s
  refine ⟨fun hinvalid => ?_, fun P hP => ⟨?_, ?_⟩⟩
  · have hnone := selectedProfile_of_invalid hinvalid
    exact ⟨exec_unit_of_no_profile hnone, exec_step_of_no_profile hnone⟩
  · exact exec_pd_unit_under_duty hP
  · exact exec_duty_unit_under_pd hP

end Sys2Proof.Machine
end

section
/-! Proofs of the statements of spec 40_quantizer.md. First the two results the quantizer can have, the floor quotient
with the remainder or the next tick with its complement; then each sentence of R94 from them. -/

namespace Sys2Proof.Machine

/- ### The two results of the quantizer -/

theorem tieCount_eq_self_or_succ (tie : TieRule) (q : Nat) : tieCount tie q = q ∨ tieCount tie q = q + 1 := by
  cases tie with
  | halfUp => exact .inr rfl
  | halfEven => rcases Nat.mod_two_eq_zero_or_one q with h | h <;> simp [tieCount, h]

theorem tieCount_zero_eq_zero_iff (tie : TieRule) : tieCount tie 0 = 0 ↔ tie = .halfEven := by
  cases tie <;> simp [tieCount]

section
variable {tie : TieRule} {d T : Nat}

theorem quantTicks_of_two_mul_mod_lt (h : 2 * (d % T) < T) : quantTicks tie d T = d / T := if_pos h

theorem quantTicks_of_lt_two_mul_mod (h : T < 2 * (d % T)) : quantTicks tie d T = d / T + 1 := by
  rw [quantTicks, if_neg h.not_gt, if_pos h]

theorem quantTicks_of_tie (h : 2 * (d % T) = T) : quantTicks tie d T = tieCount tie (d / T) := by
  rw [quantTicks, if_neg h.not_lt, if_neg h.not_gt]

@[simp] theorem quantize_fst : (quantize tie d T).1 = quantTicks tie d T := rfl

theorem quantize_of_ticks_eq_div (h : quantTicks tie d T = d / T) : quantize tie d T = (d / T, d % T) := by
  have hd : d / T * T + d % T = d := Nat.div_add_mod' d T
  rw [quantize, h, Prod.mk.injEq]
  omega

theorem quantize_of_ticks_eq_succ (hT : 1 ≤ T) (h : quantTicks tie d T = d / T + 1) :
    quantize tie d T = (d / T + 1, T - d % T) := by
  have hd : d / T * T + d % T = d := Nat.div_add_mod' d T
  have hr : d % T < T := Nat.mod_lt d hT
  have hn : (d / T + 1) * T = d / T * T + T := Nat.succ_mul ..
  rw [quantize, h, Prod.mk.injEq]
  omega

end

section
variable (tie : TieRule) (d : Nat) {T : Nat}

/-- What the quantizer can answer. On a tie both sides are open, and the tie rule chooses (spec 40_quantizer.md R92). -/
theorem quantize_cases (hT : 1 ≤ T) :
    (2 * (d % T) ≤ T ∧ quantize tie d T = (d / T, d % T)) ∨
    (T ≤ 2 * (d % T) ∧ quantize tie d T = (d / T + 1, T - d % T)) := by
  rcases lt_trichotomy (2 * (d % T)) T with hlt | htie | hgt
  · exact .inl ⟨hlt.le, quantize_of_ticks_eq_div (quantTicks_of_two_mul_mod_lt hlt)⟩
  · have hticks := quantTicks_of_tie (tie := tie) htie
    rcases tieCount_eq_self_or_succ tie (d / T) with h | h
    · exact .inl ⟨htie.le, quantize_of_ticks_eq_div (hticks.trans h)⟩
    · exact .inr ⟨htie.ge, quantize_of_ticks_eq_succ hT (hticks.trans h)⟩
  · exact .inr ⟨hgt.le, quantize_of_ticks_eq_succ hT (quantTicks_of_lt_two_mul_mod hgt)⟩

/- ### The sentences of R94 -/

/-- A count rounded up has a remainder of at least 1, which pays for the tick added to the quotient. -/
theorem quantize_ticks_le (hT : 1 ≤ T) : (quantize tie d T).1 ≤ d := by
  have hd : d / T * T + d % T = d := Nat.div_add_mod' d T
  have hq : d / T ≤ d / T * T := Nat.le_mul_of_pos_right _ hT
  rcases quantize_cases tie d hT with ⟨-, h⟩ | ⟨hr, h⟩ <;> simp only [h] <;> omega

/-- The error does not depend on the tie rule: it is the distance to the nearer grid point. -/
theorem quantize_error_eq_min (hT : 1 ≤ T) :
    (quantize tie d T).2 = min (d % T) (T - d % T) := by
  rcases quantize_cases tie d hT with ⟨hr, h⟩ | ⟨hr, h⟩ <;> simp only [h] <;> omega

theorem quantize_error_le_half (hT : 1 ≤ T) : (quantize tie d T).2 ≤ T / 2 := by
  rw [quantize_error_eq_min tie d hT]
  omega

theorem two_mul_quantize_error_eq_iff (hT : 1 ≤ T) :
    2 * (quantize tie d T).2 = T ↔ 2 * (d % T) = T := by
  rw [quantize_error_eq_min tie d hT]
  omega

/-- Below one tick the floor quotient is 0, so the count is 0 unless the remainder `d` is rounded up. -/
theorem quantTicks_eq_zero_iff_of_lt {d : Nat} (hd : d < T) :
    quantTicks tie d T = 0 ↔ 2 * d < T ∨ (2 * d = T ∧ tie = .halfEven) := by
  have hq : d / T = 0 := Nat.div_eq_of_lt hd
  have hr : d % T = d := Nat.mod_eq_of_lt hd
  rcases lt_trichotomy (2 * d) T with hlt | htie | hgt
  · simp [quantTicks_of_two_mul_mod_lt (hr ▸ hlt), hq, hlt]
  · simp [quantTicks_of_tie (hr.symm ▸ htie), hq, htie, tieCount_zero_eq_zero_iff]
  · simp [quantTicks_of_lt_two_mul_mod (hr.symm ▸ hgt), hgt.not_gt, hgt.ne']

theorem quantize_ticks_eq_zero_iff (hT : 1 ≤ T) :
    (quantize tie d T).1 = 0 ↔ 2 * d < T ∨ (2 * d = T ∧ tie = .halfEven) := by
  rcases lt_or_ge d T with hd | hd
  · exact quantTicks_eq_zero_iff_of_lt tie hd
  · have hq : 0 < d / T := Nat.div_pos hd hT
    have hticks : (quantize tie d T).1 ≠ 0 := by
      rcases quantize_cases tie d hT with ⟨-, h⟩ | ⟨-, h⟩ <;> simp only [h] <;> omega
    refine iff_of_false hticks ?_
    omega

theorem quantize_mul (k : Nat) (hT : 1 ≤ T) : quantize tie (k * T) T = (k, 0) := by
  have hq : k * T / T = k := Nat.mul_div_cancel k hT
  have hr : k * T % T = 0 := Nat.mul_mod_left k T
  have hticks : quantTicks tie (k * T) T = k * T / T := quantTicks_of_two_mul_mod_lt (by omega)
  rw [quantize_of_ticks_eq_div hticks, hq, hr]

theorem quantize_ticks_mul_le (hT : 1 ≤ T) :
    (quantize tie d T).1 * T ≤ d + T / 2 := by
  have herr : quantTicks tie d T * T - d ≤ (quantize tie d T).2 := Nat.le_add_left ..
  have hhalf := quantize_error_le_half tie d hT
  rw [quantize_fst]
  omega

end

/-- Settles O12: the counts and the error by the two results of the quantizer, and the widths from these bounds. -/
theorem quantizerWidthsAndRanges : Obligations.QuantizerWidthsAndRanges := by
  intro tie d T hT
  have hticks := quantize_ticks_le tie d hT
  have herror := quantize_error_le_half tie d hT
  have hproduct := quantize_ticks_mul_le tie d hT
  refine ⟨hticks, fun W hd => hticks.trans_lt hd, ?_, herror, fun W hW => ?_, two_mul_quantize_error_eq_iff tie d hT,
    quantize_ticks_eq_zero_iff tie d hT, ?_, fun k => quantize_mul tie k hT, fun W p g hp hg => ?_, hproduct,
    fun W hd hW => ?_⟩
  · rintro rfl
    simpa using quantize_mul tie d hT
  · exact (herror.trans (Nat.div_le_self T 2)).trans_lt hW
  · simpa using quantize_mul tie 0 hT
  · rw [Nat.pow_succ]
    omega
  · rw [Nat.pow_succ] at hd ⊢
    rw [Nat.pow_succ]
    omega

end Sys2Proof.Machine
end

section
/-! Proofs of the statements of spec 41_pd_decoder.md. First how `PDDEC` can end, then what its loop keeps from pair to
pair, then R112 at the end of the stream. -/

namespace Sys2Proof.Machine

/- ### How `PDDEC` can end -/

/-- A unit that answers a next state without a fault had its profile, and ran under it. -/
theorem withKind_toOutcome_unfaulted {kind : Kind} {s r : State} {k : Profile → Run}
    (h : (withKind kind s fun P => admitting P (k P)).toOutcome = .next r) (hr : r.fault.v = false) :
    ∃ P, selectedProfile s = some P ∧ P.kind = kind ∧ profileAdmitted P = true ∧ (k P).toOutcome = .next r := by
  cases hP : selectedProfile s with
  | none =>
    rw [withKind_toOutcome_none _ _ hP] at h
    cases h
    cases hr
  | some P =>
    by_cases hkind : P.kind = kind
    · rw [withKind_some hP, if_pos hkind] at h
      cases hadm : profileAdmitted P with
      | false => rw [admitting_of_not hadm] at h; cases h
      | true => exact ⟨P, rfl, hkind, hadm, by simpa [admitting, hadm] using h⟩
    · rw [withKind_toOutcome_of_kind_ne _ hP hkind] at h
      cases h
      cases hr

/-- The decoder's work written back over its cleared outputs (the counterpart of `dtStore` and `frmStore`). -/
def pdStore (w : PdWork) (s : State) : State := { pdStart s with pd := w.regs, sym := w.sym }

/-- The work as the loop finds it: nothing decoded, the cursor past the start pair (spec 41_pd_decoder.md R100). -/
def pdLoopStart : PdWork := ⟨⟨0, 0, 2, false⟩, []⟩

section
variable {P : Profile} {s : State} {d0 d1 : Nat} {ds : List Nat}

theorem pddecCore_of_empty (hcap : s.cap = []) : pddecCore P s = .ok (pdBad .empty 0 0 (pdStart s)) := by
  simp [pddecCore, hcap]

theorem pddecCore_of_bad_startPulse (hcap : s.cap = d0 :: ds) (h0 : inBounds d0 P.startPulse = false) :
    pddecCore P s = .ok (pdBad .startPulse 0 d0 (pdStart s)) := by
  simp [pddecCore, hcap, h0]

theorem pddecCore_of_lone_startPulse (hcap : s.cap = [d0]) (h0 : inBounds d0 P.startPulse = true) :
    pddecCore P s = .ok (pdBad .truncated 0 d0 (pdStart s)) := by
  simp [pddecCore, hcap, h0]

theorem pddecCore_of_bad_startGap (hcap : s.cap = d0 :: d1 :: ds) (h0 : inBounds d0 P.startPulse = true)
    (h1 : inBounds d1 P.startGap = false) : pddecCore P s = .ok (pdBad .startGap 0 d1 (pdStart s)) := by
  simp [pddecCore, hcap, h0, h1]

theorem pddecCore_of_startPair (hcap : s.cap = d0 :: d1 :: ds) (h0 : inBounds d0 P.startPulse = true)
    (h1 : inBounds d1 P.startGap = true) :
    pddecCore P s = pdFinish (pdStart s) (pdLoop s.par.symMax P ds pdLoopStart) := by
  simp [pddecCore, hcap, h0, h1, pdLoopStart]

/-- A `PDDEC` that leaves `Bytes` read a stream to its end, after a start pair in bounds, in whole bytes; every other
end is a bad packet or the overflow of `SYM`. -/
theorem pddecCore_bytes {r : State} (h : (pddecCore P s).toOutcome = .next r) (hr : r.fault.v = false)
    (hbytes : r.out.kind = .bytes) :
    ∃ d0 d1 ds w, s.cap = d0 :: d1 :: ds ∧ pdLoop s.par.symMax P ds pdLoopStart = (w, .streamEnd) ∧
      w.regs.nbits % 8 = 0 ∧ r = { pdStore w s with out := outBytes } := by
  have hnotBad {reason : BadReason} {p v : Nat} {t : State} : (Run.ok (pdBad reason p v t)).toOutcome ≠ .next r := by
    rintro ⟨⟩
    cases hbytes
  rcases hcap : s.cap with _ | ⟨d0, rest⟩
  · exact absurd (pddecCore_of_empty hcap ▸ h) hnotBad
  cases h0 : inBounds d0 P.startPulse with
  | false => exact absurd (pddecCore_of_bad_startPulse hcap h0 ▸ h) hnotBad
  | true =>
    rcases rest with _ | ⟨d1, ds⟩
    · exact absurd (pddecCore_of_lone_startPulse hcap h0 ▸ h) hnotBad
    cases h1 : inBounds d1 P.startGap with
    | false => exact absurd (pddecCore_of_bad_startGap hcap h0 h1 ▸ h) hnotBad
    | true =>
      rw [pddecCore_of_startPair hcap h0 h1] at h
      rcases hloop : pdLoop s.par.symMax P ds pdLoopStart with ⟨w, e⟩
      rw [hloop] at h
      cases e with
      | bad reason p v => exact absurd h hnotBad
      | symFull =>
        cases h
        cases hr
      | streamEnd =>
        by_cases hwhole : w.regs.nbits % 8 = 0
        · rw [pdFinish, if_pos hwhole] at h
          cases h
          exact ⟨d0, d1, ds, w, rfl, hloop, hwhole, rfl⟩
        · rw [pdFinish, if_neg hwhole] at h
          exact absurd h hnotBad

end

/-- The `PDDEC` of a whole operation that leaves `Bytes` without a fault. -/
theorem exec_pddec_bytes {s r : State} (h : exec .pddec s = .next r) (hr : r.fault.v = false)
    (hbytes : r.out.kind = .bytes) :
    ∃ P d0 d1 ds w, s.cap = d0 :: d1 :: ds ∧ pdLoop s.par.symMax P ds pdLoopStart = (w, .streamEnd) ∧
      w.regs.nbits % 8 = 0 ∧ r = { pdStore w s with out := outBytes } := by
  rw [exec_pddec] at h
  obtain ⟨P, -, -, -, hcore⟩ := withKind_toOutcome_unfaulted h hr
  exact ⟨P, pddecCore_bytes hcore hr hbytes⟩

/- ### What the loop keeps -/

/-- The work agrees with its own count: `SYM` holds the whole bytes among the counted bits, the accumulator is clear
between bytes, and the cursor has passed the start pair, a pair a bit, and the stop pulse if it came. -/
structure PdCounted (w : PdWork) : Prop where
  bytes : ∃ bs : List Byte, w.sym = bs.map .byte ∧ bs.length = w.regs.nbits / 8
  acc   : w.regs.nbits % 8 = 0 → w.regs.acc = 0
  cur   : w.regs.cur = 2 + 2 * w.regs.nbits + w.regs.stop.toNat

theorem pdCounted_pdLoopStart : PdCounted pdLoopStart := ⟨⟨[], rfl, rfl⟩, fun _ => rfl, rfl⟩

section
variable (P : Profile) (g : Nat) (r : PdRegs)

@[simp] theorem pdPlaceBit_nbits : (pdPlaceBit P g r).nbits = r.nbits + 1 := rfl
@[simp] theorem pdPlaceBit_cur : (pdPlaceBit P g r).cur = r.cur := rfl
@[simp] theorem pdPlaceBit_stop : (pdPlaceBit P g r).stop = r.stop := rfl

end

section
variable {r : PdRegs} {sym : List Symbol}

theorem pdDeliver_of_whole_byte (h : r.nbits % 8 = 0) :
    pdDeliver r sym = ⟨{ r with acc := 0, cur := r.cur + 2 }, sym ++ [.byte r.acc]⟩ := if_pos h

theorem pdDeliver_of_partial_byte (h : r.nbits % 8 ≠ 0) :
    pdDeliver r sym = ⟨{ r with cur := r.cur + 2 }, sym⟩ := if_neg h

@[simp] theorem pdDeliver_stop : (pdDeliver r sym).regs.stop = r.stop := by
  by_cases h : r.nbits % 8 = 0
  · rw [pdDeliver_of_whole_byte h]
  · rw [pdDeliver_of_partial_byte h]

end

/-- A good pair adds a bit to the count and 2 to the cursor, and the eighth bit of a byte adds that byte to `SYM` (spec
41_pd_decoder.md R104, R105). -/
theorem PdCounted.deliver {w : PdWork} (h : PdCounted w) (P : Profile) (g : Nat) :
    PdCounted (pdDeliver (pdPlaceBit P g w.regs) w.sym) := by
  obtain ⟨⟨bs, hsym, hlen⟩, -, hcur⟩ := h
  by_cases hbyte : (pdPlaceBit P g w.regs).nbits % 8 = 0
  · rw [pdDeliver_of_whole_byte hbyte]
    rw [pdPlaceBit_nbits] at hbyte
    refine ⟨⟨bs ++ [(pdPlaceBit P g w.regs).acc], by simp [hsym], ?_⟩, fun _ => rfl, ?_⟩
    · simp only [List.length_append, List.length_singleton, pdPlaceBit_nbits]
      omega
    · simp only [pdPlaceBit_nbits, pdPlaceBit_cur, pdPlaceBit_stop]
      omega
  · rw [pdDeliver_of_partial_byte hbyte]
    rw [pdPlaceBit_nbits] at hbyte
    refine ⟨⟨bs, hsym, ?_⟩, fun h0 => absurd h0 hbyte, ?_⟩
    · simp only [pdPlaceBit_nbits]
      omega
    · simp only [pdPlaceBit_nbits, pdPlaceBit_cur, pdPlaceBit_stop]
      omega

/-- A stop pulse is one more Duration consumed (spec 41_pd_decoder.md R107). -/
theorem PdCounted.stopPulse {w : PdWork} (h : PdCounted w) (hstop : w.regs.stop = false) :
    PdCounted ⟨{ w.regs with cur := w.regs.cur + 1, stop := true }, w.sym⟩ where
  bytes := h.bytes
  acc := h.acc
  cur := by simp [h.cur, hstop]

/-- The loop, begun before any stop pulse, keeps the count up to a stream end: the input's end (`case1`), a stop pulse
(`case3`, `case8`) after good pairs (`case6`). The other cases end in a bad packet or a full `SYM`. -/
theorem pdCounted_of_pdLoop_streamEnd {n : Nat} {P : Profile} {ds : List Nat} {w v : PdWork} (h : PdCounted w)
    (hstop : w.regs.stop = false) (hloop : pdLoop n P ds w = (v, .streamEnd)) : PdCounted v := by
  fun_induction pdLoop n P ds w with
  | case1 w =>
    cases hloop
    exact h
  | case3 p w hbit hend | case8 p g ds w hbit hend =>
    cases hloop
    exact h.stopPulse hstop
  | case6 p g ds w hbit hgap hroom ih => exact ih (h.deliver P g) (by simpa using hstop) hloop
  | case2 | case4 | case5 | case7 | case9 => cases hloop

/- ### R112 -/

/-- Settles O20: a `PDDEC` that leaves `Bytes` ended its loop at a stream end with whole bytes, where the work agrees
with its count. -/
theorem pddecFinalValues : Obligations.PddecFinalValues := by
  intro s r _ hexec hr hbytes
  obtain ⟨P, d0, d1, ds, w, -, hloop, hwhole, rfl⟩ := exec_pddec_bytes hexec hr hbytes
  obtain ⟨⟨bs, hsym, hlen⟩, hacc, hcur⟩ :=
    pdCounted_of_pdLoop_streamEnd pdCounted_pdLoopStart rfl hloop
  refine ⟨⟨bs, hsym, ?_⟩, hacc hwhole, hcur, rfl, rfl⟩
  show 8 * bs.length = w.regs.nbits
  omega

end Sys2Proof.Machine
end

section
/-! Proofs of the statements of spec 44_redundancy.md. First the XOR of masks chosen by the 1 bits of a word, which is
the linear part of the check value; then the mask sequence (R171), the check value (R172), and what `autofix` repairs
(R176), from the one fact that data words one bit apart have check values at least two bits apart. -/

namespace Sys2Proof.Machine

/- ### The XOR of the masks of the 1 bits -/

/-- The XOR of `m i` over the 1 bits `i < n` of `x`. -/
def xorOver (m : Nat → Half) (x : Half) : Nat → Half
  | 0 => 0#16
  | n + 1 => xorOver m x n ^^^ if x.getLsbD n then m n else 0#16

section
variable (m u : Nat → Half) (x y r : Half)

theorem foldl_range_eq_xorOver (n : Nat) :
    ((List.range n).map fun i => if x.getLsbD i then m i else 0).foldl (· ^^^ ·) r = r ^^^ xorOver m x n := by
  induction n with
  | zero => simp [xorOver]
  | succ n ih =>
    rw [List.range_succ, List.map_append, List.foldl_append, ih, xorOver, ← BitVec.xor_assoc]
    rfl

theorem xorOver_congr {m m' : Nat → Half} {n : Nat} (h : ∀ i, i < n → m i = m' i) :
    xorOver m x n = xorOver m' x n := by
  induction n with
  | zero => rfl
  | succ n ih => rw [xorOver, xorOver, ih fun i hi => h i (by omega), h n (by omega)]

@[simp] theorem xorOver_zero (n : Nat) : xorOver m 0#16 n = 0#16 := by
  induction n with
  | zero => rfl
  | succ n ih => simp [xorOver, ih]

/-- Choosing masks by the bits of a word is linear over GF(2). -/
theorem xorOver_xor (n : Nat) : xorOver m (x ^^^ y) n = xorOver m x n ^^^ xorOver m y n := by
  induction n with
  | zero => simp [xorOver]
  | succ n ih =>
    have hbit : (if (x ^^^ y).getLsbD n then m n else 0#16) =
        (if x.getLsbD n then m n else 0#16) ^^^ if y.getLsbD n then m n else 0#16 := by
      cases hx : x.getLsbD n <;> cases hy : y.getLsbD n <;> simp [hx, hy]
    rw [xorOver, xorOver, xorOver, ih, hbit]
    ac_rfl

theorem xorOver_twoPow {b : Nat} (hb : b < 16) (n : Nat) :
    xorOver m (BitVec.twoPow 16 b) n = if b < n then m b else 0#16 := by
  induction n with
  | zero => rfl
  | succ n ih =>
    rw [xorOver, ih, BitVec.getLsbD_twoPow]
    rcases lt_trichotomy b n with h | rfl | h
    · simp [h, h.ne, Nat.lt_succ_of_lt h]
    · simp [hb]
    · simp [h.ne', h.not_gt, show ¬ b < n + 1 by omega]

/-- Two such maps in a row are one, whose masks are the images of the first masks. -/
theorem xorOver_xorOver (k n : Nat) :
    xorOver u (xorOver m x n) k = xorOver (fun i => xorOver u (m i) k) x n := by
  induction n with
  | zero => exact xorOver_zero u k
  | succ n ih =>
    rw [xorOver, xorOver_xor, ih, xorOver]
    cases x.getLsbD n <;> simp

theorem getLsbD_xorOver_twoPow (n i : Nat) :
    (xorOver (BitVec.twoPow 16) x n).getLsbD i = (decide (i < n) && x.getLsbD i) := by
  induction n with
  | zero => simp [xorOver]
  | succ n ih =>
    rw [xorOver, BitVec.getLsbD_xor, ih]
    rcases lt_trichotomy i n with h | rfl | h
    · cases x.getLsbD n <;> simp [h, h.ne', Nat.lt_succ_of_lt h]
    · cases hbit : x.getLsbD i with
      | false => simp
      | true => simp [BitVec.lt_of_getLsbD hbit]
    · cases x.getLsbD n <;> simp [h.ne, h.not_gt, show ¬ i < n + 1 by omega]

theorem xorOver_xorOver_of_inverse {m u : Nat → Half} (h : ∀ i, i < 16 → xorOver u (m i) 16 = BitVec.twoPow 16 i) :
    xorOver u (xorOver m x 16) 16 = x := by
  rw [xorOver_xorOver, xorOver_congr x h]
  refine BitVec.eq_of_getLsbD_eq fun i hi => ?_
  rw [getLsbD_xorOver_twoPow, decide_eq_true hi, Bool.true_and]

end

/- ### The mask sequence -/

theorem fold_iff_bit15 (m : BitVec 17) : (0x10000 : BitVec 17) ≤ m <<< 1 ↔ m.getLsbD 15 = true := by
  have htop : (m <<< 1).getLsbD 16 = decide (2 ^ 16 ≤ (m <<< 1).toNat) := BitVec.getLsbD_last _
  have hshift : (m <<< 1).getLsbD 16 = m.getLsbD 15 := by simp
  rw [← hshift, htop, decide_eq_true_iff]
  exact BitVec.le_def

/-- The shift puts bit 15 into bit 16, and the fold clears it again (spec 44_redundancy.md R171). -/
theorem maskNext_getLsbD_16 {fb : BitVec 17} (hfb : fb.getLsbD 16 = true) (m : BitVec 17) :
    (maskNext fb m).getLsbD 16 = false := by
  have hshift : (m <<< 1).getLsbD 16 = m.getLsbD 15 := by simp
  by_cases hbit : m.getLsbD 15 = true
  · rw [maskNext, if_pos ((fold_iff_bit15 m).mpr hbit), BitVec.getLsbD_xor, hshift, hbit, hfb]
    rfl
  · rw [maskNext, if_neg (mt (fold_iff_bit15 m).mp hbit), hshift, Bool.eq_false_iff]
    exact hbit

theorem maskAt_succ (par : EngineParams) (i : Nat) : maskAt par (i + 1) = maskNext par.feedback (maskAt par i) := rfl

theorem maskAt_eq_iterate (par : EngineParams) (i : Nat) :
    maskAt par i = (maskNext par.feedback)^[i] (par.maskSeed.setWidth 17) := by
  induction i with
  | zero => rfl
  | succ i ih => rw [maskAt_succ, ih, Function.iterate_succ_apply']

theorem maskAt_getLsbD_16 {par : EngineParams} (hfb : par.feedback.getLsbD 16 = true) (i : Nat) :
    (maskAt par i).getLsbD 16 = false := by
  cases i with
  | zero => simp [maskAt]
  | succ i => exact maskNext_getLsbD_16 hfb _

theorem maskAt_of_documentCoder {par : EngineParams} (h : documentCoder par) (i : Nat) :
    maskAt par i = (maskNext 0x10811)^[i] 0x19D8 := by
  obtain ⟨-, hmask, hfb⟩ := h
  rw [maskAt_eq_iterate, hmask, hfb]
  rfl

/-- The printed table of spec 44_redundancy.md R171, computed. -/
theorem documentMasks : ∀ i, i < 16 → ((maskNext 0x10811)^[i] 0x19D8).setWidth 16 = maskTable.getD i 0 ∧
    ((maskNext 0x10811)^[i] 0x19D8).getLsbD 16 = false := by decide

theorem documentMask_16 : (maskNext 0x10811)^[16] 0x19D8 = 0x00001 := by decide

/-- The 16 bits of the mask that `check` XORs into the result. -/
def usedMask (par : EngineParams) (i : Nat) : Half := (maskAt par i).setWidth 16

theorem usedMask_of_documentCoder {par : EngineParams} (h : documentCoder par) {i : Nat} (hi : i < 16) :
    usedMask par i = maskTable.getD i 0 := by
  rw [usedMask, maskAt_of_documentCoder h]
  exact (documentMasks i hi).1

/- ### The check value -/

theorem checkRounds_succ_last (fb : BitVec 17) (n : Nat) (r : RcRegs) :
    checkRounds fb (n + 1) r = checkRound fb (checkRounds fb n r) := by
  induction n generalizing r with
  | zero => rfl
  | succ n ih => exact ih (checkRound fb r)

section
variable (par : EngineParams) (data a b : Half)

/-- The coder's registers between two rounds. -/
theorem checkRounds_of_seeds (n : Nat) :
    checkRounds par.feedback n ⟨par.resultSeed, maskAt par 0, data⟩ =
      ⟨par.resultSeed ^^^ xorOver (usedMask par) data n, maskAt par n, data >>> n⟩ := by
  induction n with
  | zero => simp [checkRounds, xorOver]
  | succ n ih =>
    have hresult : (if (data >>> n).getLsbD 0 then
          par.resultSeed ^^^ xorOver (usedMask par) data n ^^^ (maskAt par n).setWidth 16
        else par.resultSeed ^^^ xorOver (usedMask par) data n) =
        par.resultSeed ^^^ xorOver (usedMask par) data (n + 1) := by
      rw [xorOver, usedMask, BitVec.getLsbD_ushiftRight, Nat.add_zero]
      cases data.getLsbD n <;> simp [BitVec.xor_assoc]
    rw [checkRounds_succ_last, ih, checkRound, hresult, maskAt_succ, BitVec.shiftRight_add]

theorem closedCheckOf_eq_xorOver : closedCheckOf par data = par.resultSeed ^^^ xorOver (usedMask par) data 16 :=
  foldl_range_eq_xorOver ..

/-- The loop of spec 44_redundancy.md R170 by its closed form (R172); its last data shift leaves no bit. -/
theorem checkRegs_eq : checkRegs par data = ⟨closedCheckOf par data, maskAt par 16, 0⟩ := by
  rw [closedCheckOf_eq_xorOver]
  exact (checkRounds_of_seeds par data 16).trans (by rw [BitVec.ushiftRight_eq_zero le_rfl]; rfl)

theorem checkValue_eq_closedCheckOf : checkValue par data = closedCheckOf par data := by
  rw [checkValue, checkRegs_eq]

theorem checkValue_eq_xorOver : checkValue par data = par.resultSeed ^^^ xorOver (usedMask par) data 16 := by
  rw [checkValue_eq_closedCheckOf, closedCheckOf_eq_xorOver]

theorem checkValue_zero : checkValue par 0 = par.resultSeed := by
  rw [checkValue_eq_xorOver]
  exact (congrArg _ (xorOver_zero _ 16)).trans BitVec.xor_zero

theorem checkValue_xor : checkValue par (a ^^^ b) = checkValue par a ^^^ checkValue par b ^^^ par.resultSeed := by
  calc checkValue par (a ^^^ b)
      = par.resultSeed ^^^ (xorOver (usedMask par) a 16 ^^^ xorOver (usedMask par) b 16) := by
        rw [checkValue_eq_xorOver, xorOver_xor]
    _ = (par.resultSeed ^^^ par.resultSeed) ^^^
          (par.resultSeed ^^^ (xorOver (usedMask par) a 16 ^^^ xorOver (usedMask par) b 16)) := by
        rw [BitVec.xor_self, BitVec.zero_xor]
    _ = checkValue par a ^^^ checkValue par b ^^^ par.resultSeed := by
        rw [checkValue_eq_xorOver, checkValue_eq_xorOver]
        ac_rfl

/-- One flipped data bit changes the check value by that bit's mask. -/
theorem checkValue_xor_twoPow {i : Nat} (hi : i < 16) :
    checkValue par (data ^^^ BitVec.twoPow 16 i) = checkValue par data ^^^ usedMask par i := by
  rw [checkValue_eq_xorOver, checkValue_eq_xorOver, xorOver_xor, xorOver_twoPow _ hi, if_pos hi, BitVec.xor_assoc]

end

/- ### The document's constants -/

theorem closedCheck_eq_xorOver (data : Half) :
    closedCheck data = 0x79B4 ^^^ xorOver (fun i => maskTable.getD i 0) data 16 := by
  have hindex : maskTable.zipIdx = (List.range 16).map fun i => (maskTable.getD i 0, i) := by decide
  rw [closedCheck, hindex, List.map_map]
  exact foldl_range_eq_xorOver ..

/-- Word `i` is the data whose masks XOR to check bit `i` alone: the table of the inverse, which certifies that the
masks are linearly independent. -/
def unmaskTable : List Half :=
  [0x0811, 0x1022, 0x2044, 0x4088, 0x8110, 0x0A31, 0x1462, 0x28C4,
   0x5188, 0xA310, 0x4E31, 0x9C62, 0x30D5, 0x61AA, 0xC354, 0x8EB9]

theorem xorOver_unmaskTable (x : Half) :
    xorOver (fun i => unmaskTable.getD i 0) (xorOver (fun i => maskTable.getD i 0) x 16) 16 = x :=
  xorOver_xorOver_of_inverse x (by decide)

theorem closedCheck_injective : Function.Injective closedCheck := by
  intro x y h
  rw [closedCheck_eq_xorOver, closedCheck_eq_xorOver, BitVec.xor_right_inj] at h
  rw [← xorOver_unmaskTable x, h, xorOver_unmaskTable]

theorem maskTable_nodup : maskTable.Nodup := by decide

/-- No mask looks like an error of one check bit (spec 44_redundancy.md R172). -/
theorem maskTable_ne_twoPow : ∀ m ∈ maskTable, ∀ b, b < 16 → m ≠ BitVec.twoPow 16 b :=
  List.forall_iff_forall_mem.mp (by decide)

section
variable {par : EngineParams} (h : documentCoder par)
include h

theorem checkValue_eq_closedCheck (data : Half) : checkValue par data = closedCheck data := by
  have ⟨hseed, _, _⟩ := h
  rw [checkValue_eq_xorOver, closedCheck_eq_xorOver, hseed,
    xorOver_congr data fun i hi => usedMask_of_documentCoder h hi]

theorem checkValue_injective : Function.Injective (checkValue par) := by
  rw [funext (checkValue_eq_closedCheck h)]
  exact closedCheck_injective

theorem usedMask_mem_maskTable {i : Nat} (hi : i < 16) : usedMask par i ∈ maskTable := by
  rw [usedMask_of_documentCoder h hi, List.getD_eq_getElem _ _ hi]
  exact List.getElem_mem hi

end

/-- Settles O13: the rounds of `CHECK` by their closed form, the fold by the bit it tests, the table computed. -/
theorem maskSequenceIsTheTable : Obligations.MaskSequenceIsTheTable := by
  refine ⟨fun par data => ⟨checkValue_eq_closedCheckOf par data, by rw [checkRegs_eq]⟩,
    fun par hfb i => ⟨maskAt_getLsbD_16 hfb i, fold_iff_bit15 _⟩,
    fun par h => ⟨fun i hi => usedMask_of_documentCoder h hi, (maskAt_of_documentCoder h 16).trans documentMask_16⟩,
    documentMasks, documentMask_16, fun fb m hfb => ⟨maskNext_getLsbD_16 hfb _, ?_⟩,
    fun par data h => checkValue_eq_closedCheck h data⟩
  rw [fold_iff_bit15, BitVec.getLsbD_setWidth]
  rfl

/-- Settles O14: the check value is the seed XORed with a linear map, which with the document's constants has an
inverse. -/
theorem checkIsAffineBijection : Obligations.CheckIsAffineBijection := by
  refine ⟨checkValue_eq_closedCheckOf, fun par h => ⟨checkValue_eq_closedCheck h, ?_, ?_⟩, checkValue_xor,
    checkValue_zero, fun data hdata heq => hdata (closedCheck_injective ?_), maskTable_nodup, maskTable_ne_twoPow⟩
  · rw [checkValue_zero, h.1]
  · exact Finite.injective_iff_bijective.mp (checkValue_injective h)
  · exact (BitVec.xor_eq_zero_iff.mp heq).trans (by decide)

/- ### Words at most one bit apart -/

/-- `y` is `x` or differs from it in one bit. -/
def near (x y : Half) : Prop := y = x ∨ ∃ b, b < 16 ∧ y = x ^^^ BitVec.twoPow 16 b

/-- `(d, g)` is the pair `(data, given)` or differs from it in one bit of the 32. -/
def nearPair (data given d g : Half) : Prop := (g = given ∧ near data d) ∨ (d = data ∧ near given g)

section
variable {x y data given d g : Half}

theorem near.symm (h : near x y) : near y x := by
  obtain rfl | ⟨b, hb, rfl⟩ := h
  · exact .inl rfl
  · exact .inr ⟨b, hb, by rw [BitVec.xor_assoc, BitVec.xor_self, BitVec.xor_zero]⟩

theorem oneBitCleared.near (h : oneBitCleared x y) : near x y := by
  obtain ⟨b, hb, -, rfl⟩ := h
  exact .inr ⟨b, hb, rfl⟩

theorem clearsTo.nearPair (h : clearsTo data given d g) : nearPair data given d g := by
  obtain ⟨rfl, rfl⟩ | ⟨hd, rfl⟩ | ⟨rfl, hg⟩ := h
  · exact .inl ⟨rfl, .inl rfl⟩
  · exact .inl ⟨rfl, hd.near⟩
  · exact .inr ⟨rfl, hg.near⟩

/-- Clearing a bit goes one way only: the cleared bit is 1 in `x` and stays 0 when more are cleared. -/
theorem oneBitCleared.asymm (h : oneBitCleared x y) : ¬ oneBitCleared y x := by
  rintro ⟨c, hc, hyc, hxy⟩
  obtain ⟨b, hb, hxb, hyx⟩ := h
  have hyb : y.getLsbD b = false := by rw [hyx]; simp [hxb, hb]
  have hxb' : x.getLsbD b = false := by
    rw [hxy, BitVec.getLsbD_xor, hyb, BitVec.getLsbD_twoPow]
    have hcb : c ≠ b := by rintro rfl; simp [hyb] at hyc
    simp [hcb]
  simp [hxb'] at hxb

theorem oneBitCleared.ne (h : oneBitCleared x y) : y ≠ x := by
  rintro rfl
  exact h.asymm h

theorem oneBitCleared_or_twoPow {b : Nat} (hb : b < 16) (hbit : x.getLsbD b = false) :
    oneBitCleared (x ||| BitVec.twoPow 16 b) x := by
  refine ⟨b, hb, by simp [hb], BitVec.eq_of_getLsbD_eq fun i hi => ?_⟩
  by_cases hib : b = i
  · subst hib
    rw [hbit]
    simp [hb]
  · simp [hib]

end

/- ### Valid pairs are far apart -/

section
variable {par : EngineParams} (h : documentCoder par)
include h

/-- Data one bit apart have check values that differ by a mask, which has neither no bit nor one bit set. -/
theorem eq_of_near_of_checkValue_near {x y : Half} (hxy : near x y)
    (hcheck : near (checkValue par x) (checkValue par y)) : x = y := by
  obtain rfl | ⟨i, hi, rfl⟩ := hxy
  · rfl
  obtain heq | ⟨b, hb, heq⟩ := hcheck
  · exact (checkValue_injective h heq).symm
  · rw [checkValue_xor_twoPow par x hi, BitVec.xor_right_inj] at heq
    exact absurd heq (maskTable_ne_twoPow _ (usedMask_mem_maskTable h hi) b hb)

/-- At most one valid pair is within one bit of the received pair (spec 44_redundancy.md R175). -/
theorem validPair_unique {data given d g d' g' : Half} (hd : nearPair data given d g)
    (hd' : nearPair data given d' g') (hv : checkValue par d = g) (hv' : checkValue par d' = g') : d = d' ∧ g = g' := by
  suffices d = d' by subst this; exact ⟨rfl, hv.symm.trans hv'⟩
  obtain ⟨rfl, hnear⟩ | ⟨rfl, hnear⟩ := hd <;> obtain ⟨rfl, hnear'⟩ | ⟨rfl, hnear'⟩ := hd'
  · exact checkValue_injective h (hv.trans hv'.symm)
  · exact (eq_of_near_of_checkValue_near h hnear (by rw [hv, hv']; exact hnear'.symm)).symm
  · exact eq_of_near_of_checkValue_near h hnear' (by rw [hv, hv']; exact hnear.symm)
  · rfl

end

/- ### What `autofix` answers -/

theorem and_keepMask (x : Half) {b : Nat} (hb : b < 16) :
    x &&& keepMask b = if x.getLsbD b then x ^^^ BitVec.twoPow 16 b else x := by
  have hkeep : keepMask b = ~~~BitVec.twoPow 16 b := BitVec.allOnes_xor
  rw [hkeep]
  refine BitVec.eq_of_getLsbD_eq fun i hi => ?_
  rw [BitVec.getLsbD_and, BitVec.getLsbD_not, BitVec.getLsbD_twoPow, apply_ite (BitVec.getLsbD · i),
    BitVec.getLsbD_xor, BitVec.getLsbD_twoPow]
  by_cases hib : b = i
  · subst hib
    cases x.getLsbD b <;> simp [hb]
  · simp [hi, hib]

section
variable {data given d g : Half}

theorem and_keepMask_cases (x : Half) {b : Nat} (hb : b < 16) :
    x &&& keepMask b = x ∨ oneBitCleared x (x &&& keepMask b) := by
  rw [and_keepMask x hb]
  cases hbit : x.getLsbD b with
  | false => exact .inl rfl
  | true => exact .inr ⟨b, hb, hbit, rfl⟩

theorem clearsTo_data_and_keepMask (data given : Half) {b : Nat} (hb : b < 16) :
    clearsTo data given (data &&& keepMask b) given := by
  obtain heq | hclear := and_keepMask_cases data hb
  · exact .inl ⟨heq, rfl⟩
  · exact .inr (.inl ⟨hclear, rfl⟩)

theorem clearsTo_given_and_keepMask (data given : Half) {b : Nat} (hb : b < 16) :
    clearsTo data given data (given &&& keepMask b) := by
  obtain heq | hclear := and_keepMask_cases given hb
  · exact .inl ⟨rfl, heq⟩
  · exact .inr (.inr ⟨rfl, hclear⟩)

theorem oneBitCleared.exists_keepMask {x y : Half} (h : oneBitCleared x y) : ∃ b, b < 16 ∧ x &&& keepMask b = y := by
  obtain ⟨b, hb, hbit, rfl⟩ := h
  exact ⟨b, hb, by rw [and_keepMask x hb, if_pos hbit]⟩

section
variable {par : EngineParams}

/-- Each of the 32 tests that succeeds has found a valid pair one clearing away. -/
theorem clearsTo_of_autofixAt {b : Nat} (hb : b < 16) (h : autofixAt par data given b = some d) :
    clearsTo data given d (checkValue par d) := by
  rw [autofixAt] at h
  split at h
  next hcheck =>
    cases h
    rw [hcheck]
    exact clearsTo_given_and_keepMask data given hb
  next =>
    split at h
    next hcheck =>
      cases h
      rw [hcheck]
      exact clearsTo_data_and_keepMask data given hb
    next => cases h

theorem clearsTo_of_autofixValue (h : autofixValue par data given = some d) :
    clearsTo data given d (checkValue par d) := by
  rw [autofixValue] at h
  split at h
  next hvalid =>
    cases h
    exact .inl ⟨rfl, hvalid⟩
  next =>
    obtain ⟨b, hb, hat⟩ := List.exists_of_findSome?_eq_some h
    exact clearsTo_of_autofixAt (List.mem_range.mp hb) hat

theorem autofixAt_eq_none_iff {b : Nat} : autofixAt par data given b = none ↔
    checkValue par data ≠ given &&& keepMask b ∧ checkValue par (data &&& keepMask b) ≠ given := by
  rw [autofixAt]
  split
  next hcheck => simp [hcheck]
  next hcheck => simp [hcheck]

theorem autofixValue_eq_none_iff : autofixValue par data given = none ↔ checkValue par data ≠ given ∧
    ∀ b, b < 16 → checkValue par data ≠ given &&& keepMask b ∧ checkValue par (data &&& keepMask b) ≠ given := by
  rw [autofixValue]
  split
  next hvalid => simp [hvalid]
  next hvalid => simp [hvalid, autofixAt_eq_none_iff]

/-- The tests miss no valid pair one clearing away. -/
theorem autofixValue_ne_none (h : clearsTo data given d g) (hv : checkValue par d = g) :
    autofixValue par data given ≠ none := by
  intro hnone
  obtain ⟨hvalid, htests⟩ := autofixValue_eq_none_iff.mp hnone
  obtain ⟨rfl, rfl⟩ | ⟨hd, rfl⟩ | ⟨rfl, hg⟩ := h
  · exact hvalid hv
  · obtain ⟨b, hb, rfl⟩ := hd.exists_keepMask
    exact (htests b hb).2 hv
  · obtain ⟨b, hb, rfl⟩ := hg.exists_keepMask
    exact (htests b hb).1 hv

end

/- ### R176 -/

section
variable {par : EngineParams} (h : documentCoder par)
include h

/-- What `autofix` answers in general: its tests find a valid pair one clearing away, and there is only one to find. -/
theorem autofixValue_eq_some_iff :
    autofixValue par data given = some d ↔ ∃ g, clearsTo data given d g ∧ checkValue par d = g := by
  refine ⟨fun hfix => ⟨_, clearsTo_of_autofixValue hfix, rfl⟩, fun ⟨g, hclear, hv⟩ => ?_⟩
  obtain ⟨d', hfix⟩ := Option.ne_none_iff_exists'.mp (autofixValue_ne_none hclear hv)
  have hclear' := clearsTo_of_autofixValue hfix
  rw [hfix, (validPair_unique h hclear.nearPair hclear'.nearPair hv rfl).1]

/-- A received pair one bit away from a valid pair is repaired to that pair or not at all. -/
theorem autofixValue_eq_none_of_near (hnear : nearPair data given d (checkValue par d))
    (hnot : ¬ clearsTo data given d (checkValue par d)) : autofixValue par data given = none := by
  rw [Option.eq_none_iff_forall_ne_some]
  intro d' hfix
  have hclear := clearsTo_of_autofixValue hfix
  obtain ⟨rfl, -⟩ := validPair_unique h hnear hclear.nearPair rfl rfl
  exact hnot hclear

theorem autofixValue_of_data_bit_cleared {d0 d1 : Half} (hclear : oneBitCleared d0 d1) :
    autofixValue par d1 (checkValue par d0) = none := by
  refine autofixValue_eq_none_of_near h (.inl ⟨rfl, hclear.near.symm⟩) ?_
  rintro (⟨heq, -⟩ | ⟨hback, -⟩ | ⟨heq, -⟩)
  · exact hclear.ne heq.symm
  · exact hclear.asymm hback
  · exact hclear.ne heq.symm

theorem autofixValue_of_check_bit_cleared {d0 c1 : Half} (hclear : oneBitCleared (checkValue par d0) c1) :
    autofixValue par d0 c1 = none := by
  refine autofixValue_eq_none_of_near h (.inr ⟨rfl, hclear.near.symm⟩) ?_
  rintro (⟨-, heq⟩ | ⟨-, heq⟩ | ⟨-, hback⟩)
  · exact hclear.ne heq.symm
  · exact hclear.ne heq.symm
  · exact hclear.asymm hback

/-- Three errors repaired to wrong data: of the valid pair `(0x0377, 0xF6E3)` a data bit and two check bits were
cleared on the way, which leaves the valid pair `(0x0157, 0xF6C2)` with one bit set. -/
theorem autofixValue_of_three_errors : checkValue par 0x0377 = 0xF6E3 ∧ checkValue par 0x0177 ≠ 0xF6C2 ∧
    autofixValue par 0x0177 0xF6C2 = some 0x0157 := by
  rw [autofixValue_eq_some_iff h]
  simp only [checkValue_eq_closedCheck h]
  exact ⟨by decide, by decide, 0xF6C2, .inr (.inl ⟨⟨5, by decide⟩, rfl⟩), by decide⟩

end

end

/-- Settles O17: a set bit is repaired because the valid pair is one clearing away, a cleared bit is not because no
other valid pair is within one bit. -/
theorem autofixRepairLaws : Obligations.AutofixRepairLaws := by
  intro par h
  refine ⟨fun d0 => ?_, fun d0 b hb hbit => ?_, fun d0 b hb hbit => ?_, fun _ _ => autofixValue_of_data_bit_cleared h,
    fun _ _ => autofixValue_of_check_bit_cleared h, fun _ _ _ => autofixValue_eq_some_iff h,
    fun _ _ _ _ _ _ hd hd' => validPair_unique h hd.nearPair hd'.nearPair, 0x0377, 0x0177, 0xF6C2, 0x0157, ?_⟩
  · exact (autofixValue_eq_some_iff h).mpr ⟨_, .inl ⟨rfl, rfl⟩, rfl⟩
  · exact (autofixValue_eq_some_iff h).mpr ⟨_, .inr (.inl ⟨oneBitCleared_or_twoPow hb hbit, rfl⟩), rfl⟩
  · exact (autofixValue_eq_some_iff h).mpr ⟨_, .inr (.inr ⟨rfl, oneBitCleared_or_twoPow hb hbit⟩), rfl⟩
  · obtain ⟨hsent, hinvalid, hfix⟩ := autofixValue_of_three_errors h
    exact ⟨by decide, by decide, by rw [hsent]; decide, hinvalid, hfix⟩

end Sys2Proof.Machine
end

section
/-! Proofs of the statements of spec 45_modulator.md. First what a unit does under a well-formed profile of its kind, then
the time of each emission from its parts: a pulse and a gap for each bit for `MODPD`, ticks of equal time for `MODDUTY`. -/

namespace Sys2Proof.Machine

/- ### A unit under its profile -/

theorem withKind_toOutcome_of_hasProfile {kind : Kind} {s : State} {P : Profile} (k : Profile → Run)
    (h : hasProfile kind s P) : (withKind kind s fun Q => admitting Q (k Q)).toOutcome = (k P).toOutcome := by
  obtain ⟨hsel, hkind, hwf⟩ := h
  rw [withKind_some hsel, if_pos hkind, admitting_of_wellFormed hwf]

theorem exec_modpd_fits {s : State} {P : Profile} (h : hasProfile .pd s P)
    (hfit : 16 * s.txb.length + 4 ≤ s.par.emitMax) :
    exec .modpd s = .next { s with emit := (pdEmission P s.txb).map .bare } := by
  rw [exec_modpd, withKind_toOutcome_of_hasProfile _ h, modpdCore_fits hfit, Run.toOutcome_ok]

theorem exec_modduty_fits {s : State} {P : Profile} (h : hasProfile .duty s P)
    (hfit : s.txb.length * dutyPerByte P ≤ s.par.emitMax) :
    exec .modduty s = .next { s with emit := dutyEmission s.par.pulseBit P s.txb } := by
  rw [exec_modduty, withKind_toOutcome_of_hasProfile _ h, moddutyCore_fits hfit, Run.toOutcome_ok]

/-- The send pulse of a well-formed duty row is no longer than its tick (spec 00_scope.md R9). -/
theorem dutyPulseSend_le_tickLen {s : State} {P : Profile} (h : hasProfile .duty s P) :
    P.dutyPulseSend ≤ P.tickLen := by
  obtain ⟨-, hkind, hwf⟩ := h
  simp only [profileWellFormed, hkind, tickConditions, Bool.and_eq_true, decide_eq_true_eq] at hwf
  obtain ⟨-, ⟨-, hle⟩, -⟩ := hwf
  exact hle

/- ### Air time -/

/-- The time `Emit` takes on these entries (spec 45_modulator.md R194). -/
def airTime (es : List EmitEntry) : Nat := (es.map entryDuration).sum

theorem airTime_map_bare (ds : List Nat) : airTime (ds.map .bare) = ds.sum := by
  rw [airTime, List.map_map]
  exact congrArg List.sum (List.map_id ds)

theorem airTime_append (es fs : List EmitEntry) : airTime (es ++ fs) = airTime es + airTime fs := by
  simp [airTime]

/-- Parts of equal time take that time each. -/
theorem airTime_flatten_of_forall {c : Nat} {parts : List (List EmitEntry)} (h : ∀ es ∈ parts, airTime es = c) :
    airTime parts.flatten = parts.length * c := by
  induction parts with
  | nil => simp [airTime]
  | cons es parts ih =>
    obtain ⟨hes, hparts⟩ := List.forall_mem_cons.mp h
    rw [List.flatten_cons, airTime_append, hes, ih hparts, List.length_cons]
    ring

theorem airTime_flatMap_of_forall {α : Type} {c : Nat} {f : α → List EmitEntry} (h : ∀ x, airTime (f x) = c)
    (xs : List α) : airTime (xs.flatMap f) = xs.length * c := by
  rw [List.flatMap_def, airTime_flatten_of_forall (List.forall_mem_map.mpr fun x _ => h x), List.length_map]

/- ### The time of a pulse-distance emission -/

theorem pdBit_sum (P : Profile) (v : Byte) (k : Nat) :
    (pdBit P v k).sum = P.bitPulse.send + if v.getLsbD k then P.bitGapSendLong else P.bitGapSendShort := by
  simp [pdBit]

/-- A bit pulse for each bit, a long gap for each 1 and a short gap for each 0. -/
theorem flatMap_pdBit_sum (P : Profile) (v : Byte) (ks : List Nat) :
    (ks.flatMap (pdBit P v)).sum = ks.length * P.bitPulse.send +
      (ks.filter fun k => v.getLsbD k).length * P.bitGapSendLong +
      (ks.filter fun k => !v.getLsbD k).length * P.bitGapSendShort := by
  induction ks with
  | nil => simp
  | cons k ks ih =>
    rw [List.flatMap_cons, List.sum_append, pdBit_sum, ih]
    cases hbit : v.getLsbD k <;> simp [hbit] <;> ring

theorem flatMap_pdByte_sum (P : Profile) (bs : List Byte) :
    (bs.flatMap (pdByte P)).sum = 8 * bs.length * P.bitPulse.send +
      (bs.map fun v => ((List.range 8).filter fun k => v.getLsbD k).length).sum * P.bitGapSendLong +
      (bs.map fun v => ((List.range 8).filter fun k => !v.getLsbD k).length).sum * P.bitGapSendShort := by
  induction bs with
  | nil => simp
  | cons v bs ih =>
    rw [List.flatMap_cons, List.sum_append, ih, pdByte, flatMap_pdBit_sum, List.length_range, List.length_cons,
      List.map_cons, List.map_cons, List.sum_cons, List.sum_cons]
    ring

theorem pdEmission_sum (P : Profile) (bs : List Byte) :
    (pdEmission P bs).sum = P.startPulse.send + P.startGap.send + (bs.flatMap (pdByte P)).sum +
      P.stopPulse.send + P.stopGap.send := by
  simp only [pdEmission, List.sum_append, List.sum_cons, List.sum_nil]
  ring

/- ### The time of a duty emission -/

section
variable {P : Profile} (hpulse : P.dutyPulseSend ≤ P.tickLen)
include hpulse

/-- A pulse and its rest fill the tick. -/
theorem airTime_dutyTick (pulse : Bool) : airTime (dutyTick P pulse) = P.tickLen := by
  cases pulse with
  | false => simp [dutyTick, airTime, entryDuration]
  | true =>
    by_cases hlt : P.dutyPulseSend < P.tickLen
    · simp [dutyTick, airTime, entryDuration, hlt, hpulse]
    · simpa [dutyTick, airTime, entryDuration, hlt] using Nat.le_antisymm hpulse (Nat.not_lt.mp hlt)

/-- A byte takes a start tick, eight data ticks and its idle ticks (spec 45_modulator.md R190). -/
theorem airTime_dutyByte (pulseBit : Bool) (v : Byte) :
    airTime (dutyByte pulseBit P v) = (9 + P.dutyStopTicks.toNat) * P.tickLen := by
  have hdata : airTime ((List.range 8).flatMap fun i => dutyTick P (v.getLsbD i == pulseBit)) = 8 * P.tickLen := by
    rw [airTime_flatMap_of_forall fun i => airTime_dutyTick hpulse _, List.length_range]
  have hidle : airTime (List.replicate P.dutyStopTicks.toNat (dutyTick P false)).flatten =
      P.dutyStopTicks.toNat * P.tickLen := by
    rw [airTime_flatten_of_forall fun es hes => List.eq_of_mem_replicate hes ▸ airTime_dutyTick hpulse false,
      List.length_replicate]
  rw [dutyByte, airTime_append, airTime_append, airTime_dutyTick hpulse, hdata, hidle]
  ring

theorem airTime_dutyEmission (pulseBit : Bool) (bs : List Byte) :
    airTime (dutyEmission pulseBit P bs) = bs.length * (9 + P.dutyStopTicks.toNat) * P.tickLen := by
  rw [dutyEmission, airTime_flatMap_of_forall (airTime_dutyByte hpulse pulseBit), Nat.mul_assoc]

end

/- ### R194 -/

/-- Settles O25: each emission fits, so it is what fills `EMIT`; its time is that of its pulses and gaps, or
of its ticks. -/
theorem airTimeOfEmissions : Obligations.AirTimeOfEmissions := by
  intro s P
  refine ⟨fun hP hfit => ⟨_, exec_modpd_fits hP hfit, ?_⟩, fun hP hfit => ⟨_, exec_modduty_fits hP hfit, ?_⟩⟩
  · refine (airTime_map_bare _).trans ?_
    rw [pdEmission_sum, flatMap_pdByte_sum]
    ring
  · exact airTime_dutyEmission (dutyPulseSend_le_tickLen hP) s.par.pulseBit s.txb

end Sys2Proof.Machine
end

section
/-! Proofs of the statements of spec 30_encoding.md section 1, 60_exceptions.md section 5 and
70_reset_and_hazards.md section 2: the decoder against the encoder on all words, then each host action as the one
step it makes. -/

namespace Sys2Proof.Machine

/- ### The command word -/

theorem decode_encode (i : Instr) : decode (encode i) = .ok i := by
  cases i with
  | rxstep w t | converse w t => cases w <;> cases t <;> rfl
  | dutydec t | txrxstep t => cases t <;> rfl
  | _ => rfl

/-- The word decodes to nothing, or to the operation that encodes to it. -/
def decodesBack (c : Byte) : Bool :=
  match decode c with
  | .ok i    => encode i == c
  | .error _ => true

theorem decodesBack_all : ∀ c : Byte, decodesBack c = true := by decide

theorem encode_of_decode {c : Byte} {i : Instr} (h : decode c = .ok i) : encode i = c := by
  have hback := decodesBack_all c
  simpa [decodesBack, h] using hback

/-- Spec 30_encoding.md R63: a reserved operation, a high bit, or a flag on an operation that does not take it. -/
def illegalWord (c : Byte) : Prop :=
  c.extractLsb' 0 4 = 0x0 ∨ c.extractLsb' 0 4 = 0xF ∨ c.extractLsb' 6 2 ≠ 0 ∨
    (c.getLsbD 4 = true ∧ c.extractLsb' 0 4 ∉ [(0xA : BitVec 4), 0xC]) ∨
    (c.getLsbD 5 = true ∧ c.extractLsb' 0 4 ∉ [(0x3 : BitVec 4), 0xA, 0xB, 0xC])

/-- The decoder rejects exactly the illegal words. -/
theorem illegalWord_iff : ∀ c : Byte, illegalWord c ↔ (decode c).toBool = false := by
  unfold illegalWord
  decide

theorem decode_of_illegalWord {c : Byte} (h : illegalWord c) : ∃ e, decode c = .error e := by
  have hreject := (illegalWord_iff c).mp h
  cases hd : decode c with
  | error e => exact ⟨e, rfl⟩
  | ok i => rw [hd] at hreject; cases hreject

theorem decode_of_not_illegalWord {c : Byte} (h : ¬illegalWord c) : ∃ i, decode c = .ok i := by
  cases hd : decode c with
  | ok i => exact ⟨i, rfl⟩
  | error e => exact absurd ((illegalWord_iff c).mpr (by rw [hd]; rfl)) h

/-- Every operation has legal fields: a flag argument stands only where the flag may be set. -/
theorem wellFormed_all (i : Instr) : i.wellFormed = true := by
  cases i with
  | rxstep w t | converse w t => cases w <;> cases t <;> rfl
  | dutydec t | txrxstep t => cases t <;> rfl
  | _ => rfl

/-- Settles O1: the words, decoded. -/
theorem writtenWordsDecode : Obligations.WrittenWordsDecode := by
  unfold Obligations.WrittenWordsDecode
  decide

/-- Settles O2: each operation's word decodes to it, and a word that decodes is that operation's. -/
theorem decodeInvertsEncode : Obligations.DecodeInvertsEncode := by
  intro c i
  constructor
  · exact encode_of_decode
  · rintro rfl
    exact decode_encode i

/- ### The next host action is the step -/

section
variable {s : State} {a : HostAction} {rest : List HostAction}

theorem step_of_pending (he : engineWellFormed s.par = true) (hp : s.pending = a :: rest) :
    step s = runAction a { s with pending := rest } := by
  simp [step, he, hp]

theorem step_of_idle (he : engineWellFormed s.par = true) (hp : s.pending = []) : step s = .next s := by
  simp [step, he, hp]

theorem step_command (he : engineWellFormed s.par = true) {c : Byte} (hp : s.pending = .command c :: rest) :
    step s = runCommand c { s with pending := rest } := step_of_pending he hp

end

section
variable (s : State) {c : Byte}

theorem runCommand_faulted (hf : s.fault.v = true) : runCommand c s = .next s := by simp [runCommand, hf]

theorem runCommand_illegal (hf : s.fault.v = false) {e : DecodeError} (hd : decode c = .error e) :
    runCommand c s = .next { s with fault := ⟨true, 1⟩ } := by
  simp [runCommand, hf, hd, takeFault, faultCode]

theorem runCommand_legal (hf : s.fault.v = false) {i : Instr} (hd : decode c = .ok i) : runCommand c s = exec i s := by
  simp [runCommand, hf, hd]

end

/-- Settles O3: the faulted case first, then whether the decoder takes the word. -/
theorem illegalWordFaults : Obligations.IllegalWordFaults := by
  intro s c rest he hp
  have hstep := step_command he hp
  refine ⟨fun hf => ?_, fun hf => ⟨fun hill => ?_, fun hlegal => ?_⟩⟩
  · exact hstep.trans (runCommand_faulted _ hf)
  · obtain ⟨e, hd⟩ := decode_of_illegalWord hill
    exact hstep.trans (runCommand_illegal _ hf hd)
  · obtain ⟨i, hd⟩ := decode_of_not_illegalWord hlegal
    refine ⟨i, wellFormed_all i, encode_of_decode hd, ?_⟩
    exact hstep.trans (runCommand_legal { s with pending := rest } hf hd)

/-- Settles O4. -/
theorem stepRunsTheCommandedOperation : Obligations.StepRunsTheCommandedOperation := by
  intro s he
  refine ⟨fun c rest i hp hf hd _ => ?_, step_of_idle he⟩
  exact (step_command he hp).trans (runCommand_legal { s with pending := rest } hf hd)

/-- A host write is its own update where its condition holds, and refused elsewhere. -/
theorem hostWrite_eq_ite {fits : Bool} {p : Prop} [Decidable p] (h : fits = true ↔ p) (r : State) :
    hostWrite fits r = if p then .next r else .refused .hostWriteOutOfRange :=
  if_congr h rfl rfl

theorem fitsDur_iff {par : EngineParams} {v : Nat} : fitsDur par v = true ↔ v < 2 ^ par.durW := decide_eq_true_iff

/-- Settles O5: each write by the condition its action is tested for. -/
theorem hostWritesLandOrAreRefused : Obligations.HostWritesLandOrAreRefused := by
  rintro s u rest he rfl
  refine ⟨fun v hp => ?_, fun v hp => ?_, fun ds hp => ?_, fun ss hp => ?_, fun bs hp => ?_, fun l hp => ?_,
    fun f row hp => ?_⟩ <;> rw [step_of_pending he hp]
  · exact hostWrite_eq_ite fitsDur_iff _
  · exact hostWrite_eq_ite fitsDur_iff _
  · exact hostWrite_eq_ite (by simp [fitsDur_iff]) _
  · exact hostWrite_eq_ite decide_eq_true_iff _
  · exact hostWrite_eq_ite decide_eq_true_iff _
  · exact hostWrite_eq_ite fitsDur_iff _
  · exact hostWrite_eq_ite (by simp) _

/- ### Reset and the sticky fault -/

/-- Settles O6: the reset state is the table, field by field. -/
theorem hardResetLeavesTheTable : Obligations.HardResetLeavesTheTable := by
  intro s rest he hp
  refine ⟨hardReset { s with pending := rest }, step_of_pending he hp, ?_⟩
  simp only [hardReset_pd, hardReset_dt, hardReset_rc, hardReset_tq, hardReset_frm, hardReset_seq, hardReset_capFull,
    hardReset_fault, hardReset_cfg, hardReset_out, hardReset_conv, hardReset_op, hardReset_res, hardReset_cap,
    hardReset_sym, hardReset_pay, hardReset_rep, hardReset_emit, hardReset_log, hardReset_txb, hardReset_trace,
    hardReset_capDev, hardReset_port, hardReset_profiles, hardReset_par, FrmRegs.clear, OutRegs.clear, and_self]

/-- A host action other than a command and hardware reset writes its own target, never `FAULT`. -/
theorem runAction_keeps_fault {a : HostAction} (s : State) {r : State} (h : runAction a s = .next r)
    (hcommand : ∀ c, a ≠ .command c) (hreset : a ≠ .hardReset) : r.fault = s.fault := by
  cases a with
  | command c => exact absurd rfl (hcommand c)
  | hardReset => exact absurd rfl hreset
  | _ =>
    obtain ⟨-, rfl⟩ := hostWrite_eq_next.mp h
    rfl

/-- Settles O7: a faulted engine ignores command words, no other action writes `FAULT`, reset clears it. -/
theorem faultStaysUntilHardReset : Obligations.FaultStaysUntilHardReset := by
  intro s r a rest hf hp h
  obtain ⟨he, -⟩ := step_cases h
  rw [step_of_pending he hp] at h
  have hignored : ∀ c, a = .command c → r = { s with pending := rest } := by
    rintro c rfl
    have hkeep : runAction (.command c) { s with pending := rest } = .next { s with pending := rest } :=
      runCommand_faulted _ hf
    rw [hkeep] at h
    cases h
    rfl
  refine ⟨fun hreset => ?_, hignored, ?_⟩
  · by_cases hcommand : ∃ c, a = .command c
    · obtain ⟨c, hc⟩ := hcommand
      rw [hignored c hc]
    · exact runAction_keeps_fault { s with pending := rest } h (not_exists.mp hcommand) hreset
  · rintro rfl
    cases h
    rfl

end Sys2Proof.Machine
end

section
/-! Proofs of the statements of spec 40_quantizer.md section 2 and 44_redundancy.md sections 2 and 3 about the
operations `QUANT`, `CHECK` and `AUTOFIX`, from the facts about the functions they evaluate. -/

namespace Sys2Proof.Machine

/- ### `QUANT` -/

theorem exec_quant_of_wellFormed {s : State} {P : Profile} (hP : selectedProfile s = some P)
    (hwf : profileWellFormed P = true) (hT : 1 ≤ P.tickLen) :
    exec .quant s = .next { s with tq :=
      ⟨(quantize s.par.quantTie s.op.a P.tickLen).1, (quantize s.par.quantTie s.op.a P.tickLen).2⟩ } := by
  rw [exec_quant, withProfile_some hP, if_neg (Nat.one_le_iff_ne_zero.mp hT), admitting_of_wellFormed hwf,
    Run.toOutcome_ok]

section
variable {tie : TieRule} {d T n e : Nat}

/-- The error is the distance from the count's grid point, on either side of the Duration. -/
theorem quantize_on_grid (hT : 1 ≤ T) (h : quantize tie d T = (n, e)) : d = n * T + e ∨ d + e = n * T := by
  have hd : d / T * T + d % T = d := Nat.div_add_mod' d T
  have hr : d % T < T := Nat.mod_lt d hT
  rcases quantize_cases tie d hT with ⟨-, hq⟩ | ⟨-, hq⟩ <;> rw [h, Prod.mk.injEq] at hq <;> obtain ⟨rfl, rfl⟩ := hq
  · exact .inl hd.symm
  · rw [Nat.succ_mul]
    omega

/-- Half way between two grid points, `QUANT_TIE` decides (spec 40_quantizer.md R92). -/
theorem quantize_of_tie (htie : 2 * (d % T) = T) :
    (quantize .halfUp d T).1 = d / T + 1 ∧ (quantize .halfEven d T).1 % 2 = 0 := by
  refine ⟨quantTicks_of_tie htie, ?_⟩
  rw [quantize_fst, quantTicks_of_tie htie, tieCount]
  split <;> omega

end

/-- Settles O11: the count and error are those of the quantizer, the nearest grid point and its distance. -/
theorem quantWritesNearestTickCount : Obligations.QuantWritesNearestTickCount := by
  intro s P hP hwf hT
  have herr : 2 * (quantize s.par.quantTie s.op.a P.tickLen).2 = P.tickLen → 2 * (s.op.a % P.tickLen) = P.tickLen :=
    (two_mul_quantize_error_eq_iff _ _ hT).mp
  have hhalf := quantize_error_le_half s.par.quantTie s.op.a hT
  refine ⟨_, _, exec_quant_of_wellFormed hP hwf hT, quantize_on_grid hT rfl, by omega, fun htie hup => ?_,
    fun htie heven => ?_⟩
  · have hmod := herr htie
    have hd : s.op.a / P.tickLen * P.tickLen + s.op.a % P.tickLen = s.op.a := Nat.div_add_mod' ..
    rw [hup] at htie ⊢
    rw [(quantize_of_tie hmod).1, Nat.succ_mul]
    omega
  · rw [heven] at herr htie ⊢
    exact (quantize_of_tie (herr htie)).2

/- ### `CHECK` and `AUTOFIX` -/

/-- Settles O15: the rounds of `check` by their closed form, with the document's masks. -/
theorem checkWritesTheCheckValue : Obligations.CheckWritesTheCheckValue := by
  intro s hdoc
  have hregs : checkRegs s.par (BitVec.ofNat 16 s.op.a) = ⟨closedCheck (BitVec.ofNat 16 s.op.a), 0x00001, 0⟩ := by
    rw [checkRegs_eq, ← checkValue_eq_closedCheckOf, checkValue_eq_closedCheck hdoc, maskAt_of_documentCoder hdoc,
      documentMask_16]
  have hvalue := checkValue_eq_closedCheck hdoc (BitVec.ofNat 16 s.op.a)
  show execCheck s = _
  rw [execCheck, lowHalf, hregs, hvalue]
  rfl

theorem exec_autofix (s : State) :
    exec .autofix s =
      .next (freeCoder { s with res := resOf (autofixValue s.par (lowHalf s.op.a) (lowHalf s.op.b)) }) := rfl

/-- Settles O16: what `autofix` answers is R176 (d), and a repair it does not answer does not exist. -/
theorem autofixRepairsOneClearedBit : Obligations.AutofixRepairsOneClearedBit := by
  intro s hdoc
  refine ⟨_, _, _, exec_autofix s, ?_⟩
  show _ ∨ _
  cases hfix : autofixValue s.par (lowHalf s.op.a) (lowHalf s.op.b) with
  | some d =>
    obtain ⟨g, hclear, hvalid⟩ := (autofixValue_eq_some_iff hdoc).mp hfix
    exact .inl ⟨d, rfl, g, hclear, by rw [← checkValue_eq_closedCheck hdoc, hvalid]⟩
  | none =>
    refine .inr ⟨rfl, fun d g hclear hvalid => ?_⟩
    rw [← checkValue_eq_closedCheck hdoc] at hvalid
    exact autofixValue_ne_none hclear hvalid hfix

end Sys2Proof.Machine
end

section
/-! Bits and bytes, for the decoders of spec 41_pd_decoder.md and 42_duty_decoder.md: which bit of a byte an accumulator
operation sets, and how a bit stream falls into bytes. -/

namespace Sys2Proof.Machine

/- ### Bits of a byte -/

section
variable {i k lo len : Nat} {b : Bool}

theorem getLsbD_bitsByte (bits : List Bool) (hi : i < 8) : (bitsByte bits).getLsbD i = bits.getD i false := by
  rw [bitsByte, BitVec.getLsbD_setWidth, BitVec.getLsbD_ofBoolListLE]
  simp [hi]

theorem getLsbD_bitAt (hi : i < 8) : (bitAt b k).getLsbD i = (b && decide (i = k)) := by
  cases b with
  | false => simp [bitAt]
  | true =>
    rw [bitAt, BitVec.getLsbD_ofNat]
    simp [hi, Nat.testBit_two_pow, eq_comm]

/-- `ones(lo, lo + len - 1)` sets the bits from `lo` to below `lo + len` (spec 00_scope.md section 5). -/
theorem getLsbD_onesFrom (hi : i < 8) : (onesFrom lo len).getLsbD i = decide (lo ≤ i ∧ i < lo + len) := by
  rw [onesFrom, BitVec.getLsbD_ofNat, Nat.testBit_mul_two_pow, Nat.testBit_two_pow_sub_one]
  by_cases h : lo ≤ i
  · simp [hi, h]
    omega
  · simp [h]

end

@[simp] theorem bitsByte_nil : bitsByte [] = 0 := rfl

/-- The next bit of a byte goes to the next position (spec 41_pd_decoder.md R104). -/
theorem bitsByte_append_bit (bits : List Bool) (b : Bool) :
    bitsByte (bits ++ [b]) = bitsByte bits ||| bitAt b bits.length := by
  refine BitVec.eq_of_getLsbD_eq fun i hi => ?_
  rw [BitVec.getLsbD_or, getLsbD_bitsByte _ hi, getLsbD_bitsByte _ hi, getLsbD_bitAt hi]
  rcases lt_trichotomy i bits.length with h | rfl | h
  · rw [List.getD_append _ _ _ _ h]
    simp [h.ne]
  · simp
  · rw [List.getD_eq_default _ _ h.le, List.getD_eq_default _ _ (by simpa using h)]
    simp [h.ne']

/-- Padding with ones from the next position up (spec 42_duty_decoder.md R124). -/
theorem bitsByte_append_ones (bits : List Bool) (n : Nat) :
    bitsByte (bits ++ List.replicate n true) = bitsByte bits ||| onesFrom bits.length n := by
  refine BitVec.eq_of_getLsbD_eq fun i hi => ?_
  rw [BitVec.getLsbD_or, getLsbD_bitsByte _ hi, getLsbD_bitsByte _ hi, getLsbD_onesFrom hi]
  rcases lt_or_ge i bits.length with h | h
  · rw [List.getD_append _ _ _ _ h]
    simp [h.not_ge]
  · rw [List.getD_append_right _ _ _ _ h, List.getD_eq_default _ _ h, Bool.false_or]
    by_cases hn : i - bits.length < n
    · simp [hn, h]
      omega
    · simp [hn, h]
      omega

/-- The eight bits of a byte, bit 0 first. -/
def byteBits (v : Byte) : List Bool := (List.range 8).map v.getLsbD

@[simp] theorem byteBits_length (v : Byte) : (byteBits v).length = 8 := by simp [byteBits]

theorem bitsByte_byteBits (v : Byte) : bitsByte (byteBits v) = v := by
  refine BitVec.eq_of_getLsbD_eq fun i hi => ?_
  rw [getLsbD_bitsByte _ hi, byteBits]
  simp [hi]

/- ### A bit stream in bytes -/

section
variable {bits : List Bool}

theorem wholeBytes_length (bits : List Bool) : (wholeBytes bits).length = bits.length / 8 := by simp [wholeBytes]

/-- While a byte is not full, one more bit leaves the whole bytes and joins the partial one. -/
theorem append_bit_of_partial (b : Bool) (h : (bits.length + 1) % 8 ≠ 0) :
    wholeBytes (bits ++ [b]) = wholeBytes bits ∧
      partialByte (bits ++ [b]) = partialByte bits ||| bitAt b (bits.length % 8) := by
  have hdiv : (bits ++ [b]).length / 8 = bits.length / 8 := by simp; omega
  refine ⟨?_, ?_⟩
  · rw [wholeBytes, wholeBytes, hdiv]
    refine List.map_congr_left fun j hj => ?_
    rw [List.mem_range] at hj
    rw [List.drop_append_of_le_length (by omega), List.take_append_of_le_length (by simp; omega)]
  · rw [partialByte, partialByte, hdiv, List.drop_append_of_le_length (by omega), bitsByte_append_bit, List.length_drop]
    congr
    omega

/-- The eighth bit of a byte makes it whole, and the partial byte is empty again. -/
theorem append_bit_of_whole (b : Bool) (h : (bits.length + 1) % 8 = 0) :
    wholeBytes (bits ++ [b]) = wholeBytes bits ++ [partialByte bits ||| bitAt b (bits.length % 8)] ∧
      partialByte (bits ++ [b]) = 0 := by
  have hdiv : (bits ++ [b]).length / 8 = bits.length / 8 + 1 := by simp; omega
  refine ⟨?_, ?_⟩
  · rw [wholeBytes, wholeBytes, hdiv, List.range_succ, List.map_append]
    congr 1
    · refine List.map_congr_left fun j hj => ?_
      rw [List.mem_range] at hj
      rw [List.drop_append_of_le_length (by omega), List.take_append_of_le_length (by simp; omega)]
    · rw [List.map_singleton, List.take_of_length_le (by simp; omega), List.drop_append_of_le_length (by omega),
        bitsByte_append_bit, List.length_drop, partialByte]
      congr
      omega
  · rw [partialByte, hdiv, List.drop_eq_nil_of_le (by simp; omega)]
    rfl

theorem wholeBytes_append {byte : List Bool} (h : byte.length = 8) :
    wholeBytes (byte ++ bits) = bitsByte byte :: wholeBytes bits := by
  have hdiv : (byte ++ bits).length / 8 = bits.length / 8 + 1 := by simp [h]
  rw [wholeBytes, hdiv, List.range_succ_eq_map, List.map_cons, List.map_map, wholeBytes]
  congr 1
  · simp [← h]
  · refine List.map_congr_left fun j _ => ?_
    rw [Function.comp_apply, List.drop_append, List.drop_eq_nil_of_le (by omega), List.nil_append,
      show 8 * j.succ - byte.length = 8 * j by omega]

/-- A byte stream sent bit by bit falls into its bytes again. -/
theorem wholeBytes_flatMap_byteBits (bs : List Byte) : wholeBytes (bs.flatMap byteBits) = bs := by
  induction bs with
  | nil => rfl
  | cons v bs ih => rw [List.flatMap_cons, wholeBytes_append (byteBits_length v), bitsByte_byteBits, ih]

end

end Sys2Proof.Machine
end

section
/-! Proofs of the statements of spec 41_pd_decoder.md section 3 and 45_modulator.md section 2. First what `PDDEC` makes
of any capture, then its loop over pairs a receiver takes for bits, then the line code as such pairs. -/

namespace Sys2Proof.Machine

theorem exec_pddec_of_hasProfile {s : State} {P : Profile} (h : hasProfile .pd s P) :
    exec .pddec s = (pddecCore P s).toOutcome :=
  (exec_pddec s).trans (withKind_toOutcome_of_hasProfile _ h)

theorem within_iff_inBounds {d : Nat} {b : Bounds} : within b d ↔ inBounds d b = true := inBounds_iff.symm

theorem not_within_iff_inBounds {d : Nat} {b : Bounds} : ¬within b d ↔ inBounds d b = false := by
  rw [within_iff_inBounds, Bool.not_eq_true]

/- ### The start pair (R101, R110) -/

/-- Settles O22: the four ends of `PDDEC` before its loop. -/
theorem pddecValidatesTheStartPair : Obligations.PddecValidatesTheStartPair := by
  intro s P h
  have hexec := exec_pddec_of_hasProfile h
  refine ⟨fun hcap => ?_, fun d0 ds hcap h0 => ?_, fun d0 hcap hmin hmax => ?_, fun d0 d1 ds hcap hmin hmax h1 => ?_⟩
  · rw [hexec, pddecCore_of_empty hcap]
    rfl
  · rw [hexec, pddecCore_of_bad_startPulse hcap (not_within_iff_inBounds.mp h0)]
    rfl
  · rw [hexec, pddecCore_of_lone_startPulse hcap (inBounds_iff.mpr ⟨hmin, hmax⟩)]
    rfl
  · rw [hexec, pddecCore_of_bad_startGap hcap (inBounds_iff.mpr ⟨hmin, hmax⟩) (not_within_iff_inBounds.mp h1)]
    rfl

/- ### What `PDDEC` leaves on any capture -/

/-- How the loop of `PDDEC` can end on the Durations `ds`, of `total` with those before the cursor: within `SYM`, with
no more bits than pairs, and where it stops early, with a Duration of the input or for a full `SYM`. -/
structure PdLoopEnd (symMax total : Nat) (ds : List Nat) (v : PdWork) (e : PdEnd) : Prop where
  room  : v.sym.length ≤ symMax
  cur   : v.regs.cur ≤ total
  nbits : 2 + 2 * v.regs.nbits ≤ total
  bad   : ∀ r position value, e = .bad r position value →
    (r = .truncated ∨ r = .pulse ∨ r = .bitGap) ∧ position = v.regs.nbits ∧ value ∈ ds
  full  : e = .symFull → v.sym.length = symMax ∧ v.regs.nbits = 8 * symMax + 8

theorem PdLoopEnd.mono {symMax total : Nat} {ds es : List Nat} {v : PdWork} {e : PdEnd}
    (h : PdLoopEnd symMax total ds v e) (hmem : ∀ d ∈ ds, d ∈ es) : PdLoopEnd symMax total es v e where
  room := h.room
  cur := h.cur
  nbits := h.nbits
  bad r position value he := by
    obtain ⟨hr, hpos, hvalue⟩ := h.bad r position value he
    exact ⟨hr, hpos, hmem _ hvalue⟩
  full := h.full

/-- A work whose count is right and whose loop stops here. -/
theorem PdCounted.loopEnd {symMax total : Nat} {ds : List Nat} {w : PdWork} {e : PdEnd} (h : PdCounted w)
    (hstop : w.regs.stop = false) (hroom : w.sym.length ≤ symMax) (htotal : w.regs.cur ≤ total)
    (hbad : ∀ r position value, e = .bad r position value →
      (r = .truncated ∨ r = .pulse ∨ r = .bitGap) ∧ position = w.regs.nbits ∧ value ∈ ds)
    (hfull : e ≠ .symFull) : PdLoopEnd symMax total ds w e where
  room := hroom
  cur := htotal
  nbits := by simpa [h.cur, hstop] using htotal
  bad := hbad
  full he := absurd he hfull

section
variable {r : PdRegs} {sym : List Symbol}

@[simp] theorem pdDeliver_nbits : (pdDeliver r sym).regs.nbits = r.nbits := by
  unfold pdDeliver
  split <;> rfl

@[simp] theorem pdDeliver_cur : (pdDeliver r sym).regs.cur = r.cur + 2 := by
  unfold pdDeliver
  split <;> rfl

end

theorem pdDeliver_sym_length_le {symMax : Nat} {r : PdRegs} {sym : List Symbol} (hroom : sym.length ≤ symMax)
    (hfit : ¬(r.nbits % 8 = 0 ∧ symMax ≤ sym.length)) : (pdDeliver r sym).sym.length ≤ symMax := by
  by_cases hbyte : r.nbits % 8 = 0
  · rw [pdDeliver_of_whole_byte hbyte, List.length_append, List.length_singleton]
    omega
  · rw [pdDeliver_of_partial_byte hbyte]
    exact hroom

theorem pdLoop_end {symMax : Nat} {P : Profile} {ds : List Nat} {w v : PdWork} {e : PdEnd} (h : PdCounted w)
    (hstop : w.regs.stop = false) (hroom : w.sym.length ≤ symMax) (hloop : pdLoop symMax P ds w = (v, e)) :
    PdLoopEnd symMax (w.regs.cur + ds.length) ds v e := by
  have hcur : w.regs.cur = 2 + 2 * w.regs.nbits := by simpa [hstop] using h.cur
  fun_induction pdLoop symMax P ds w with
  | case1 w =>
    cases hloop
    exact h.loopEnd hstop hroom (by simp) (by simp) (by simp)
  | case2 p w hbit | case4 p w hbit hend =>
    cases hloop
    exact h.loopEnd hstop hroom (by simp) (by simp) (by simp)
  | case3 p w hbit hend =>
    cases hloop
    exact ⟨hroom, by simp, by simp; omega, by simp, by simp⟩
  | case5 p g ds w hbit hgap hfull =>
    cases hloop
    obtain ⟨hbyte, hsymMax⟩ := hfull
    obtain ⟨bs, hsym, hlen⟩ := h.bytes
    have hsymLen : w.sym.length = bs.length := by simp [hsym]
    rw [pdPlaceBit_nbits] at hbyte
    refine ⟨hroom, by simp, ?_, by simp, fun _ => ⟨hroom.antisymm hsymMax, ?_⟩⟩
    · simp only [pdPlaceBit_nbits, List.length_cons]
      omega
    · simp only [pdPlaceBit_nbits]
      omega
  | case6 p g ds w hbit hgap hfit ih =>
    have hcount := h.deliver P g
    have hstop' : (pdDeliver (pdPlaceBit P g w.regs) w.sym).regs.stop = false := by simpa using hstop
    have hcur' := hcount.cur
    rw [hstop', pdDeliver_nbits] at hcur'
    have hend := ih hcount hstop' (pdDeliver_sym_length_le hroom hfit) hloop (by simpa using hcur')
    have htotal : (pdDeliver (pdPlaceBit P g w.regs) w.sym).regs.cur + ds.length =
        w.regs.cur + (p :: g :: ds).length := by
      simp only [pdDeliver_cur, pdPlaceBit_cur, List.length_cons]
      omega
    exact htotal ▸ hend.mono fun d hd => by simp [hd]
  | case7 p g ds w hbit hgap | case9 p g ds w hbit hend =>
    cases hloop
    exact h.loopEnd hstop hroom (by simp) (by simp) (by simp)
  | case8 p g ds w hbit hend =>
    cases hloop
    exact ⟨hroom, by simp, by simp; omega, by simp, by simp⟩

/-- What `PDDEC` leaves in `SYM`, `PD.*` and `OUT.*` after a capture stays within what its registers hold. -/
structure PdLawful (symMax : Nat) (cap : List Nat) (sym : List Symbol) (pd : PdRegs) (out : OutRegs) : Prop where
  room     : sym.length ≤ symMax
  nbits    : pd.nbits ≤ cap.length
  cur      : pd.cur ≤ cap.length
  position : out.position ≤ cap.length
  value    : out.value ∈ cap ∨ out.value < 256

/-- The outcomes a `PDDEC` that did not fault can leave: `Bytes`, or a bad packet with one of its own seven reasons and
`SYM` empty (spec 41_pd_decoder.md R111). -/
def pdOutcome (sym : List Symbol) (out : OutRegs) : Prop :=
  out = outBytes ∨ ∃ r position value, out = outBad r position value ∧ sym = [] ∧ 1 ≤ (badCode r).toNat ∧
    (badCode r).toNat ≤ 7

/-- What `PDDEC` makes of a capture: registers, symbols and an outcome that depend on the capture alone, or the overflow
of a full `SYM`. -/
def pdAnswers (symMax : Nat) (P : Profile) (cap : List Nat) (sym : List Symbol) (pd : PdRegs) (out : OutRegs) : Prop :=
  (pdOutcome sym out ∧ ∀ s, s.par.symMax = symMax → s.cap = cap →
    pddecCore P s = .ok { s with sym := sym, pd := pd, out := out }) ∨
  (out = .clear ∧ sym.length = symMax ∧ 18 + 16 * symMax ≤ cap.length ∧
    ∀ s, s.par.symMax = symMax → s.cap = cap →
      pddecCore P s = .halted { s with sym := sym, pd := pd, out := out, fault := ⟨true, 4⟩ })

/-- A bad packet before the loop, whose registers are still clear. -/
theorem pdAnswers_of_bad_startPair {symMax : Nat} {P : Profile} {cap : List Nat} {r : BadReason} {value : Nat}
    (hr : 1 ≤ (badCode r).toNat ∧ (badCode r).toNat ≤ 7) (hvalue : value ∈ cap ∨ value < 256)
    (hcore : ∀ s, s.cap = cap → pddecCore P s = .ok (pdBad r 0 value (pdStart s))) :
    ∃ sym pd out, PdLawful symMax cap sym pd out ∧ pdAnswers symMax P cap sym pd out :=
  ⟨[], ⟨0, 0, 0, false⟩, outBad r 0 value, ⟨by simp, by simp, by simp, by simp [outBad], hvalue⟩,
    .inl ⟨.inr ⟨r, 0, value, rfl, rfl, hr⟩, fun s _ hcap => hcore s hcap⟩⟩

/-- Every `PDDEC` answers, by its capture and the room in `SYM` (spec 41_pd_decoder.md section 3). -/
theorem pddecCore_answers (symMax : Nat) (P : Profile) (cap : List Nat) :
    ∃ sym pd out, PdLawful symMax cap sym pd out ∧ pdAnswers symMax P cap sym pd out := by
  rcases cap with _ | ⟨d0, rest⟩
  · exact pdAnswers_of_bad_startPair (by decide) (.inr (by decide)) fun s hcap => pddecCore_of_empty hcap
  cases h0 : inBounds d0 P.startPulse with
  | false =>
    exact pdAnswers_of_bad_startPair (by decide) (.inl (by simp)) fun s hcap => pddecCore_of_bad_startPulse hcap h0
  | true =>
  rcases rest with _ | ⟨d1, ds⟩
  · exact pdAnswers_of_bad_startPair (by decide) (.inl (by simp)) fun s hcap => pddecCore_of_lone_startPulse hcap h0
  cases h1 : inBounds d1 P.startGap with
  | false =>
    exact pdAnswers_of_bad_startPair (by decide) (.inl (by simp)) fun s hcap => pddecCore_of_bad_startGap hcap h0 h1
  | true =>
  have hcore {s : State} (hpar : s.par.symMax = symMax) (hcap : s.cap = d0 :: d1 :: ds) :
      pddecCore P s = pdFinish (pdStart s) (pdLoop symMax P ds pdLoopStart) :=
    hpar ▸ pddecCore_of_startPair hcap h0 h1
  rcases hloop : pdLoop symMax P ds pdLoopStart with ⟨w, e⟩
  have hend := (pdLoop_end pdCounted_pdLoopStart rfl (by simp [pdLoopStart]) hloop).mono
    (es := d0 :: d1 :: ds) fun d hd => by simp [hd]
  obtain ⟨hroom, hcur, hnbits, hbad, hfull⟩ := hend
  have hlen : pdLoopStart.regs.cur + ds.length = (d0 :: d1 :: ds).length := by simp [pdLoopStart]; omega
  rw [hlen] at hcur hnbits
  rw [hloop] at hcore
  cases e with
  | streamEnd =>
    by_cases hwhole : w.regs.nbits % 8 = 0
    · refine ⟨w.sym, w.regs, outBytes, ⟨hroom, by omega, hcur, by simp [outBytes], .inr (by simp [outBytes])⟩,
        .inl ⟨.inl rfl, fun s hpar hcap => (hcore hpar hcap).trans ?_⟩⟩
      rw [pdFinish, if_pos hwhole]
      rfl
    · refine ⟨[], w.regs, outBad .bitCount w.regs.nbits w.regs.acc.toNat,
        ⟨by simp, by omega, hcur, by simp only [outBad]; omega, .inr w.regs.acc.isLt⟩,
        .inl ⟨.inr ⟨_, _, _, rfl, rfl, by decide⟩, fun s hpar hcap => (hcore hpar hcap).trans ?_⟩⟩
      rw [pdFinish, if_neg hwhole]
      rfl
  | bad r position value =>
    obtain ⟨hr, rfl, hvalue⟩ := hbad r position value rfl
    refine ⟨[], w.regs, outBad r w.regs.nbits value,
      ⟨by simp, by omega, hcur, by simp only [outBad]; omega, .inl hvalue⟩,
      .inl ⟨.inr ⟨_, _, _, rfl, rfl, ?_⟩, fun s hpar hcap => (hcore hpar hcap).trans rfl⟩⟩
    rcases hr with rfl | rfl | rfl <;> decide
  | symFull =>
    obtain ⟨hsym, hbits⟩ := hfull rfl
    exact ⟨w.sym, w.regs, .clear, ⟨hroom, by omega, hcur, by simp [OutRegs.clear], .inr (by simp [OutRegs.clear])⟩,
      .inr ⟨rfl, hsym, by omega, fun s hpar hcap => (hcore hpar hcap).trans rfl⟩⟩

/-- Settles O21: what `PDDEC` answers on its capture, whatever it is. -/
theorem pddecChangesOnlyItsOutputs : Obligations.PddecChangesOnlyItsOutputs := by
  intro s P h
  obtain ⟨sym, pd, out, -, hanswer⟩ := pddecCore_answers s.par.symMax P s.cap
  rw [exec_pddec_of_hasProfile h]
  rcases hanswer with ⟨hout, hcore⟩ | ⟨hout, hsym, hlen, hcore⟩
  · refine ⟨sym, pd, out, s.fault, by rw [hcore s rfl rfl]; rfl, .inl ⟨rfl, ?_⟩⟩
    rcases hout with rfl | ⟨r, position, value, rfl, hsym, hr⟩
    · exact .inl rfl
    · exact .inr ⟨rfl, hsym, hr⟩
  · exact ⟨sym, pd, out, ⟨true, 4⟩, by rw [hcore s rfl rfl]; rfl, .inr ⟨rfl, hout, hsym, hlen⟩⟩

/- ### The loop over good pairs -/

/-- The work after the start pair and some good pairs: their bits in whole bytes, the rest in the accumulator. -/
def pdWorkOf (P : Profile) (xs : List (Nat × Nat)) : PdWork :=
  ⟨⟨partialByte (readBits P xs), xs.length, 2 + 2 * xs.length, false⟩, (wholeBytes (readBits P xs)).map .byte⟩

section
variable {symMax : Nat} {P : Profile} {w : PdWork} {ds : List Nat} {x : Nat × Nat} {xs : List (Nat × Nat)} {p g : Nat}

theorem pdWorkOf_nil : pdWorkOf P [] = pdLoopStart := by
  simp [pdWorkOf, pdLoopStart, readBits, wholeBytes, partialByte]

theorem pdLoop_goodPair (hx : goodPair P x) (hroom : ¬((w.regs.nbits + 1) % 8 = 0 ∧ symMax ≤ w.sym.length)) :
    pdLoop symMax P (x.1 :: x.2 :: ds) w = pdLoop symMax P ds (pdDeliver (pdPlaceBit P x.2 w.regs) w.sym) := by
  obtain ⟨hpulse, hgap⟩ := hx
  rw [pdLoop, if_pos (within_iff_inBounds.mp hpulse), if_pos (inRange_iff.mpr hgap)]
  exact if_neg hroom

/-- One more good pair is one more bit of the stream (spec 41_pd_decoder.md R103 to R105). -/
theorem pdDeliver_pdWorkOf :
    pdDeliver (pdPlaceBit P x.2 (pdWorkOf P xs).regs) (pdWorkOf P xs).sym = pdWorkOf P (xs ++ [x]) := by
  have hlen : (readBits P xs).length = xs.length := by simp [readBits]
  have hbits : readBits P (xs ++ [x]) = readBits P xs ++ [gapBit P x.2] := by simp [readBits, gapBit]
  have hcount : (pdPlaceBit P x.2 (pdWorkOf P xs).regs).nbits = xs.length + 1 := rfl
  by_cases hbyte : (xs.length + 1) % 8 = 0
  · obtain ⟨hwhole, hpartial⟩ := append_bit_of_whole (gapBit P x.2) (hlen.symm ▸ hbyte)
    rw [pdDeliver_of_whole_byte (hcount ▸ hbyte), pdWorkOf, pdWorkOf, hbits, hwhole, hpartial, hlen]
    simp [pdPlaceBit, Nat.mul_add, Nat.add_assoc]
  · obtain ⟨hwhole, hpartial⟩ := append_bit_of_partial (gapBit P x.2) (hlen.symm ▸ hbyte)
    rw [pdDeliver_of_partial_byte (hcount ▸ hbyte), pdWorkOf, pdWorkOf, hbits, hwhole, hpartial, hlen]
    simp [pdPlaceBit, Nat.mul_add, Nat.add_assoc]

theorem pdLoop_goodPairs (hxs : ∀ x ∈ xs, goodPair P x) (hroom : xs.length / 8 ≤ symMax) :
    pdLoop symMax P (pairDurations xs ++ ds) pdLoopStart = pdLoop symMax P ds (pdWorkOf P xs) := by
  induction xs using List.reverseRecOn generalizing ds with
  | nil =>
    rw [pdWorkOf_nil]
    rfl
  | append_singleton xs x ih =>
    rw [List.length_append, List.length_singleton] at hroom
    have hsplit : pairDurations (xs ++ [x]) ++ ds = pairDurations xs ++ (x.1 :: x.2 :: ds) := by simp [pairDurations]
    have hsym : (pdWorkOf P xs).sym.length = xs.length / 8 := by simp [pdWorkOf, wholeBytes_length, readBits]
    have hfit : ¬(((pdWorkOf P xs).regs.nbits + 1) % 8 = 0 ∧ symMax ≤ (pdWorkOf P xs).sym.length) := by
      rw [hsym, pdWorkOf]
      dsimp only
      omega
    rw [hsplit, ih (fun y hy => hxs y (by simp [hy])) (by omega), pdLoop_goodPair (hxs x (by simp)) hfit,
      pdDeliver_pdWorkOf]

/- ### What ends the loop -/

theorem pdLoop_stopPulse (hP : pdConditions P = true) (hp : within P.stopPulse p) :
    pdLoop symMax P (p :: ds) w = (⟨{ w.regs with cur := w.regs.cur + 1, stop := true }, w.sym⟩, .streamEnd) := by
  have hstop := within_iff_inBounds.mp hp
  have hbit : inBounds p P.bitPulse = false := by
    rw [Bool.eq_false_iff]
    intro hbit
    rw [bitPulse_not_stopPulse hP hbit] at hstop
    cases hstop
  cases ds <;> simp [pdLoop, hbit, hstop]

theorem pdLoop_badPulse (hbit : ¬within P.bitPulse p) (hstop : ¬within P.stopPulse p) :
    pdLoop symMax P (p :: ds) w = (w, .bad .pulse w.regs.nbits p) := by
  rw [not_within_iff_inBounds] at hbit hstop
  cases ds <;> simp [pdLoop, hbit, hstop]

theorem pdLoop_truncated (hbit : within P.bitPulse p) :
    pdLoop symMax P [p] w = (w, .bad .truncated w.regs.nbits p) := by
  rw [pdLoop, if_pos (within_iff_inBounds.mp hbit)]

theorem pdLoop_badGap (hbit : within P.bitPulse p) (hgap : ¬(P.bitGapMin ≤ g ∧ g ≤ P.bitGapMax)) :
    pdLoop symMax P (p :: g :: ds) w = (w, .bad .bitGap w.regs.nbits g) := by
  rw [pdLoop, if_pos (within_iff_inBounds.mp hbit), if_neg (mt inRange_iff.mp hgap)]

end

theorem pdConditions_of_hasProfile {s : State} {P : Profile} (h : hasProfile .pd s P) : pdConditions P = true := by
  obtain ⟨-, hkind, hwf⟩ := h
  rw [profileWellFormed, hkind, Bool.and_eq_true] at hwf
  exact hwf.2

/-- `PDDEC` after an in-bounds start pair and good pairs. -/
theorem exec_pddec_goodPairs {s : State} {P : Profile} {d0 d1 : Nat} {xs : List (Nat × Nat)} {ds : List Nat}
    (h : hasProfile .pd s P) (h0 : within P.startPulse d0) (h1 : within P.startGap d1)
    (hxs : ∀ x ∈ xs, goodPair P x) (hroom : xs.length / 8 ≤ s.par.symMax)
    (hcap : s.cap = d0 :: d1 :: (pairDurations xs ++ ds)) :
    exec .pddec s = (pdFinish (pdStart s) (pdLoop s.par.symMax P ds (pdWorkOf P xs))).toOutcome := by
  rw [exec_pddec_of_hasProfile h, pddecCore_of_startPair hcap (within_iff_inBounds.mp h0) (within_iff_inBounds.mp h1),
    pdLoop_goodPairs hxs hroom]

/-- Settles O23: after the good pairs the loop stops at the Duration itself. -/
theorem pddecNamesTheFirstBadDuration : Obligations.PddecNamesTheFirstBadDuration := by
  rintro s P d0 d1 p xs rest pd h h0 h1 hxs hcap hroom rfl
  have hexec := exec_pddec_goodPairs h h0 h1 hxs hroom (by simpa using hcap)
  refine ⟨fun hbit hstop => ?_, fun hbit => ⟨?_, ?_⟩⟩
  · rw [hexec, pdLoop_badPulse hbit hstop]
    rfl
  · rintro rfl
    rw [hexec, pdLoop_truncated hbit]
    rfl
  · rintro g ds rfl hgap
    rw [hexec, pdLoop_badGap hbit hgap]
    rfl

/-- The loop after good pairs, where a stop pulse or the end of the input follows. -/
theorem pdLoop_streamEnd {symMax : Nat} {P : Profile} {xs : List (Nat × Nat)} {stop : Option Nat} {rest : List Nat}
    (hP : pdConditions P = true) (hstop : ∀ p, stop = some p → within P.stopPulse p) (hrest : stop = none → rest = []) :
    pdLoop symMax P (stop.toList ++ rest) (pdWorkOf P xs) =
      (⟨⟨partialByte (readBits P xs), xs.length, 2 + 2 * xs.length + stop.isSome.toNat, stop.isSome⟩,
        (wholeBytes (readBits P xs)).map .byte⟩, .streamEnd) := by
  cases stop with
  | none =>
    rw [hrest rfl]
    rfl
  | some p => exact pdLoop_stopPulse hP (hstop p rfl)

theorem pdFinish_whole {s : State} {w : PdWork} (h : w.regs.nbits % 8 = 0) :
    pdFinish s (w, .streamEnd) = .ok { s with pd := w.regs, sym := w.sym, out := outBytes } := if_pos h

theorem pdFinish_partial {s : State} {w : PdWork} (h : w.regs.nbits % 8 ≠ 0) :
    pdFinish s (w, .streamEnd) =
      .ok { s with pd := w.regs, sym := [], out := outBad .bitCount w.regs.nbits w.regs.acc.toNat } := if_neg h

/-- Settles O24: the loop ends with whole bytes or with a partial one. -/
theorem pddecRefusesAPartialByte : Obligations.PddecRefusesAPartialByte := by
  rintro s P d0 d1 xs stop rest pd h h0 h1 hxs hstop hrest hcap hroom rfl
  have hexec := exec_pddec_goodPairs (ds := stop.toList ++ rest) h h0 h1 hxs hroom (by simpa using hcap)
  rw [pdLoop_streamEnd (pdConditions_of_hasProfile h) hstop hrest] at hexec
  have hlen : (readBits P xs).length = xs.length := by simp [readBits]
  refine ⟨fun hwhole => ?_, fun hpartial => ?_⟩
  · have hacc : partialByte (readBits P xs) = 0 := by
      rw [partialByte, List.drop_eq_nil_of_le (by omega)]
      rfl
    rw [hexec, pdFinish_whole hwhole, hacc]
    rfl
  · rw [hexec, pdFinish_partial hpartial]
    rfl

/- ### The line code -/

/-- Element `i` of part `j`, where all parts have the same length. -/
theorem getElem?_flatMap_of_length {α β : Type} {f : α → List β} {c : Nat} (hf : ∀ x, (f x).length = c) (xs : List α)
    (j : Nat) {i : Nat} (hi : i < c) : (xs.flatMap f)[c * j + i]? = xs[j]?.bind fun x => (f x)[i]? := by
  induction xs generalizing j with
  | nil => simp
  | cons x xs ih =>
    cases j with
    | zero =>
      rw [List.flatMap_cons, List.getElem?_append_left (by rw [hf]; omega)]
      simp
    | succ j =>
      rw [List.flatMap_cons, List.getElem?_append_right (by rw [hf, Nat.mul_succ]; omega), List.getElem?_cons_succ,
        ← ih, hf, Nat.mul_succ]
      congr 1
      omega

section
variable (P : Profile) (v : Byte) (bs : List Byte)

theorem pdByte_length : (pdByte P v).length = 16 := by simp [pdByte, pdBit]

theorem flatMap_pdByte_length : (bs.flatMap (pdByte P)).length = 16 * bs.length := by
  simp [List.length_flatMap, pdByte_length, Nat.mul_comm]

theorem pdEmission_length : (pdEmission P bs).length = 16 * bs.length + 4 := by
  rw [pdEmission, List.length_append, List.length_append, flatMap_pdByte_length, List.length_cons, List.length_cons,
    List.length_nil, List.length_cons, List.length_cons, List.length_nil]
  omega

variable {v bs}

/-- Slot `i` of byte `j` stands after the start pair and the bytes before it (spec 30_encoding.md R68). -/
theorem pdEmission_slot {j i : Nat} (hv : bs[j]? = some v) (hi : i < 16) :
    (pdEmission P bs)[2 + 16 * j + i]? = (pdByte P v)[i]? := by
  obtain ⟨hj, -⟩ := List.getElem?_eq_some_iff.mp hv
  have hbody : 16 * j + i < (bs.flatMap (pdByte P)).length := by rw [flatMap_pdByte_length]; omega
  rw [pdEmission, List.append_assoc, List.getElem?_append_right (by simp; omega), List.length_cons,
    List.length_singleton, show 2 + 16 * j + i - (1 + 1) = 16 * j + i by omega, List.getElem?_append_left hbody,
    getElem?_flatMap_of_length (pdByte_length P) _ _ hi, hv, Option.bind_some]

/-- The slots of a byte are the pulse and the gap of each bit, bit 0 first. -/
theorem pdByte_slot {k i : Nat} (hk : k < 8) (hi : i < 2) : (pdByte P v)[2 * k + i]? = (pdBit P v k)[i]? := by
  rw [pdByte, getElem?_flatMap_of_length (f := pdBit P v) (fun _ => rfl) _ _ hi]
  simp [hk]

end

theorem pdEmission_stop (P : Profile) (bs : List Byte) :
    (pdEmission P bs)[16 * bs.length + 2]? = some P.stopPulse.send ∧
      (pdEmission P bs)[16 * bs.length + 3]? = some P.stopGap.send := by
  have hlen : ([P.startPulse.send, P.startGap.send] ++ bs.flatMap (pdByte P)).length = 16 * bs.length + 2 := by
    rw [List.length_append, flatMap_pdByte_length]
    exact Nat.add_comm ..
  rw [pdEmission]
  constructor
  · rw [List.getElem?_append_right (by omega), hlen, Nat.sub_self]
    rfl
  · rw [List.getElem?_append_right (by omega), hlen, Nat.add_sub_add_left]
    rfl

theorem exec_modpd_overflow {s : State} {P : Profile} (h : hasProfile .pd s P)
    (hlong : s.par.emitMax < 16 * s.txb.length + 4) :
    exec .modpd s = .next { s with emit := [], fault := ⟨true, 6⟩ } := by
  rw [exec_modpd, withKind_toOutcome_of_hasProfile _ h, modpdCore_overflow hlong]
  rfl

/-- Settles O18: the emission of the line code, slot by slot. -/
theorem modpdLaysOutTheSlots : Obligations.ModpdLaysOutTheSlots := by
  intro s P h
  obtain ⟨hstopPulse, hstopGap⟩ := pdEmission_stop P s.txb
  refine ⟨fun hfit => ⟨pdEmission P s.txb, exec_modpd_fits h hfit, pdEmission_length P s.txb, rfl, rfl, ?_, hstopPulse,
    hstopGap⟩, exec_modpd_overflow h⟩
  intro j k v hv hk
  have hpulse := pdEmission_slot P (i := 2 * k) hv (by omega)
  have hgap := pdEmission_slot P (i := 2 * k + 1) hv (by omega)
  rw [pdByte_slot P hk (by omega)] at hgap
  refine ⟨hpulse.trans (pdByte_slot P (i := 0) hk (by omega)), ?_⟩
  rw [show 3 + 16 * j + 2 * k = 2 + 16 * j + (2 * k + 1) by omega, hgap]
  rfl

/- ### What is sent is what is read -/

/-- The pairs of Durations that stand for the bits of a byte. -/
def bytePairs (P : Profile) (v : Byte) : List (Nat × Nat) :=
  (byteBits v).map fun b => (P.bitPulse.send, if b then P.bitGapSendLong else P.bitGapSendShort)

/-- The pairs of a byte list. -/
def packetPairs (P : Profile) (bs : List Byte) : List (Nat × Nat) := bs.flatMap (bytePairs P)

section
variable {P : Profile} (bs : List Byte)

theorem packetPairs_length : (packetPairs P bs).length = 8 * bs.length := by
  simp [packetPairs, bytePairs, List.length_flatMap, Nat.mul_comm]

theorem pairDurations_bytePairs (v : Byte) : pairDurations (bytePairs P v) = pdByte P v := by
  simp only [pairDurations, bytePairs, byteBits, pdByte, List.map_map, List.flatMap_map]
  rfl

theorem pairDurations_packetPairs : pairDurations (packetPairs P bs) = bs.flatMap (pdByte P) := by
  rw [pairDurations, packetPairs, List.flatMap_assoc]
  exact congrArg bs.flatMap (funext pairDurations_bytePairs)

theorem pdEmission_eq_pairDurations :
    pdEmission P bs =
      P.startPulse.send :: P.startGap.send :: pairDurations (packetPairs P bs) ++ [P.stopPulse.send] ++
        [P.stopGap.send] := by
  rw [pdEmission, pairDurations_packetPairs]
  simp

theorem pdEmission_dropLast :
    (pdEmission P bs).dropLast =
      P.startPulse.send :: P.startGap.send :: pairDurations (packetPairs P bs) ++ [P.stopPulse.send] := by
  rw [pdEmission_eq_pairDurations, List.dropLast_concat]

variable (hP : pdConditions P = true)
include hP

/-- The gap a sender sends for a bit is on the bit's side of the threshold (spec 00_scope.md R9). -/
theorem readBits_packetPairs : readBits P (packetPairs P bs) = bs.flatMap byteBits := by
  simp only [pdConditions, Bool.and_eq_true, decide_eq_true_eq] at hP
  have hbyte (v : Byte) : readBits P (bytePairs P v) = byteBits v := by
    rw [readBits, bytePairs, List.map_map, List.map_congr_left (g := id) fun b _ => ?_, List.map_id]
    cases b <;> simp <;> omega
  rw [readBits, packetPairs, List.map_flatMap]
  exact congrArg bs.flatMap (funext hbyte)

theorem goodPair_of_mem_packetPairs (hpulse : boundsOrdered P.bitPulse = true) :
    ∀ x ∈ packetPairs P bs, goodPair P x := by
  simp only [pdConditions, Bool.and_eq_true, decide_eq_true_eq] at hP
  intro x hx
  simp only [packetPairs, bytePairs, List.mem_flatMap, List.mem_map] at hx
  obtain ⟨v, -, b, -, rfl⟩ := hx
  refine ⟨within_iff_inBounds.mpr (inBounds_send hpulse), ?_⟩
  cases b <;> simp <;> omega

end

/-- The bounds a well-formed row holds its pulse-distance Durations in (spec 00_scope.md R9). -/
theorem boundsOrdered_of_hasProfile {kind : Kind} {s : State} {P : Profile} (h : hasProfile kind s P) :
    boundsOrdered P.startPulse = true ∧ boundsOrdered P.startGap = true ∧ boundsOrdered P.bitPulse = true ∧
      boundsOrdered P.stopPulse = true := by
  obtain ⟨-, -, hwf⟩ := h
  simp only [profileWellFormed, commonConditions, Bool.and_eq_true] at hwf
  obtain ⟨⟨⟨⟨⟨⟨hsp, hsg⟩, hbp⟩, hstp⟩, -⟩, -⟩, -⟩ := hwf
  exact ⟨hsp, hsg, hbp, hstp⟩

/-- `PDDEC` on a packet a peer sent, whatever follows its stop pulse (spec 41_pd_decoder.md R113). -/
theorem exec_pddec_packet {s : State} {P : Profile} (bs : List Byte) {rest : List Nat} (h : hasProfile .pd s P)
    (hroom : bs.length ≤ s.par.symMax)
    (hcap : s.cap =
      P.startPulse.send :: P.startGap.send :: pairDurations (packetPairs P bs) ++ [P.stopPulse.send] ++ rest) :
    exec .pddec s = .next
      { s with
        sym := bs.map .byte
        pd := ⟨0, 8 * bs.length, 16 * bs.length + 3, true⟩
        out := ⟨.bytes, 0, 0, 0⟩ } := by
  obtain ⟨hsp, hsg, hbp, hstp⟩ := boundsOrdered_of_hasProfile h
  have hP := pdConditions_of_hasProfile h
  have hdecode := (pddecRefusesAPartialByte s P P.startPulse.send P.startGap.send (packetPairs P bs)
    (some P.stopPulse.send) rest _ h (within_iff_inBounds.mpr (inBounds_send hsp))
    (within_iff_inBounds.mpr (inBounds_send hsg)) (goodPair_of_mem_packetPairs bs hP hbp)
    (by rintro p ⟨⟩; exact within_iff_inBounds.mpr (inBounds_send hstp)) (by simp) hcap
    (by rw [packetPairs_length]; omega) rfl).1 (by rw [packetPairs_length]; omega)
  rw [hdecode, readBits_packetPairs bs hP, wholeBytes_flatMap_byteBits, packetPairs_length]
  simp only [Option.isSome_some, Bool.toNat_true, show 2 + 2 * (8 * bs.length) + 1 = 16 * bs.length + 3 by omega]

/-- Settles O19: `MODPD` sends pairs that `PDDEC` reads as the bits they were sent for. -/
theorem pddecInvertsModpd : Obligations.PddecInvertsModpd := by
  intro s P h hfit hroom
  refine ⟨pdEmission P s.txb, exec_modpd_fits h hfit, fun cap hcap => ?_⟩
  have hcap' : ∃ rest, cap = P.startPulse.send :: P.startGap.send :: pairDurations (packetPairs P s.txb) ++
      [P.stopPulse.send] ++ rest := by
    rcases hcap with rfl | rfl
    · exact ⟨_, pdEmission_eq_pairDurations s.txb⟩
    · exact ⟨[], (pdEmission_dropLast s.txb).trans (List.append_nil _).symm⟩
  obtain ⟨rest, hcap'⟩ := hcap'
  exact exec_pddec_packet (s := { s with cap := cap }) s.txb h hroom hcap'

end Sys2Proof.Machine
end

section
/-! Proofs of the statements of spec 42_duty_decoder.md and 45_modulator.md section 3. First the entries of an emission,
then what `DUTYDEC` leaves on any capture, then what each pair does to a byte in progress, then the round trip. -/

namespace Sys2Proof.Machine

/- ### The entries of an emission -/

section
variable (pulseBit : Bool) (P : Profile)

theorem dutyTick_pulse : dutyTick P true = pulseTick P := rfl

theorem dutyTick_idle : dutyTick P false = [.level false P.tickLen] := rfl

theorem dutyByte_eq_byteEntries (v : Byte) : dutyByte pulseBit P v = byteEntries pulseBit P v := by
  have hbit (k : Nat) : dutyTick P (v.getLsbD k == pulseBit) =
      if v.getLsbD k = pulseBit then pulseTick P else [.level false P.tickLen] := by
    by_cases h : v.getLsbD k = pulseBit
    · rw [if_pos h, beq_iff_eq.mpr h, dutyTick_pulse]
    · rw [if_neg h, beq_eq_false_iff_ne.mpr h, dutyTick_idle]
  rw [dutyByte, byteEntries, dutyTick_pulse, funext hbit, dutyTick_idle, List.flatten_replicate_singleton]
  rfl

theorem dutyEmission_eq_byteEntries (bs : List Byte) :
    dutyEmission pulseBit P bs = bs.flatMap (byteEntries pulseBit P) :=
  congrArg bs.flatMap (funext (dutyByte_eq_byteEntries pulseBit P))

/-- A pulse tick is one entry, and one more when the pulse is shorter than the tick. -/
theorem pulseTick_length : (pulseTick P).length = 1 + if P.dutyPulseSend < P.tickLen then 1 else 0 := by
  unfold pulseTick
  split <;> rfl

theorem flatMap_tick_length (v : Byte) (ks : List Nat) :
    (ks.flatMap fun k => if v.getLsbD k = pulseBit then pulseTick P else [EmitEntry.level false P.tickLen]).length =
      ks.length +
        if P.dutyPulseSend < P.tickLen then (ks.filter fun k => v.getLsbD k == pulseBit).length else 0 := by
  induction ks with
  | nil => simp
  | cons k ks ih =>
    rw [List.flatMap_cons, List.length_append, ih, List.length_cons]
    by_cases hk : v.getLsbD k = pulseBit
    · rw [if_pos hk, pulseTick_length, List.filter_cons_of_pos (by simpa using hk), List.length_cons]
      split <;> omega
    · rw [if_neg hk, List.filter_cons_of_neg (by simpa using hk), List.length_singleton]
      split <;> omega

/-- A byte's entries: a start tick, eight data ticks, the idle ticks, and one more for each pulse shorter than its
tick (spec 45_modulator.md R193). -/
theorem byteEntries_length (v : Byte) :
    (byteEntries pulseBit P v).length = 9 + P.dutyStopTicks.toNat +
      if P.dutyPulseSend < P.tickLen then 1 + ((List.range 8).filter fun k => v.getLsbD k == pulseBit).length
      else 0 := by
  rw [byteEntries, List.length_append, List.length_append, pulseTick_length, List.length_replicate]
  have hdata := flatMap_tick_length pulseBit P v (List.range 8)
  rw [List.length_range] at hdata
  have hrange : List.range 8 = [0, 1, 2, 3, 4, 5, 6, 7] := rfl
  rw [hrange] at hdata ⊢
  rw [hdata]
  split <;> omega

theorem dutyEmission_length (bs : List Byte) :
    (dutyEmission pulseBit P bs).length = bs.length * (9 + P.dutyStopTicks.toNat) +
      if P.dutyPulseSend < P.tickLen then
        (bs.map fun v => 1 + ((List.range 8).filter fun k => v.getLsbD k == pulseBit).length).sum
      else 0 := by
  rw [dutyEmission_eq_byteEntries]
  induction bs with
  | nil => simp
  | cons v bs ih =>
    rw [List.flatMap_cons, List.length_append, ih, byteEntries_length, List.length_cons, List.map_cons, List.sum_cons,
      Nat.succ_mul]
    split <;> omega

theorem byteEntries_length_le (v : Byte) : (byteEntries pulseBit P v).length ≤ dutyPerByte P := by
  have hbits : ((List.range 8).filter fun k => v.getLsbD k == pulseBit).length ≤ 8 := List.length_filter_le ..
  rw [byteEntries_length, dutyPerByte]
  split <;> omega

theorem dutyEmission_length_le (bs : List Byte) : (dutyEmission pulseBit P bs).length ≤ bs.length * dutyPerByte P := by
  rw [dutyEmission_eq_byteEntries]
  induction bs with
  | nil => simp
  | cons v bs ih =>
    have hbyte := byteEntries_length_le pulseBit P v
    rw [List.flatMap_cons, List.length_append, List.length_cons, Nat.succ_mul]
    omega

end

theorem exec_modduty_overflow {s : State} {P : Profile} (h : hasProfile .duty s P)
    (hlong : s.par.emitMax < s.txb.length * dutyPerByte P) :
    exec .modduty s = .next { s with emit := [], fault := ⟨true, 6⟩ } := by
  rw [exec_modduty, withKind_toOutcome_of_hasProfile _ h, moddutyCore_overflow hlong]
  rfl

/-- Settles O26: the emission that fits, byte by byte. -/
theorem moddutyEntryCount : Obligations.ModdutyEntryCount := by
  intro s P h
  refine ⟨fun hfit => ⟨_, exec_modduty_fits h hfit, ?_, ?_⟩, exec_modduty_overflow h⟩
  · exact dutyEmission_eq_byteEntries ..
  · exact dutyEmission_length ..

/- ### The trace has no part in decoding -/

/-- The work of the decoder without its trace. -/
def DtWork.forget (w : DtWork) : DtWork := { w with trace := [] }

@[simp] theorem DtWork.forget_regs (w : DtWork) : w.forget.regs = w.regs := rfl
@[simp] theorem DtWork.forget_sym (w : DtWork) : w.forget.sym = w.sym := rfl
@[simp] theorem DtWork.forget_trace (w : DtWork) : w.forget.trace = [] := rfl

/-- A run of the decoder without its trace. -/
def forgetRun : DtRun → DtRun
  | .ok w    => .ok w.forget
  | .error w => .error w.forget

section
variable (par : EngineParams) (P : Profile) (on : Bool) (n : Nat) (w : DtWork)

theorem dtPush_forget (x : Symbol) : dtPush n x w.forget = forgetRun (dtPush n x w) := by
  rcases dtPush_cases n x w with ⟨h, hpush⟩ | ⟨h, hpush⟩
  · rw [hpush]
    exact if_pos h
  · rw [hpush]
    exact if_neg (Nat.not_le.mpr h)

theorem dtTrace_forget (cs : List TraceChar) : (dtTrace on cs w).forget = w.forget := by cases on <;> rfl

theorem dtClose_forget : dtClose w.forget = (dtClose w).forget := rfl

theorem dtPush_map_close_forget (x : Symbol) (cs : List TraceChar) :
    (dtPush n x w.forget).map (fun v => dtClose (dtTrace false cs v)) =
      forgetRun ((dtPush n x w).map fun v => dtClose (dtTrace on cs v)) := by
  rw [dtPush_forget]
  cases dtPush n x w with
  | error v => rfl
  | ok v =>
    simp only [forgetRun, Except.map, dtTrace_off, dtClose_forget]
    cases on <;> rfl

theorem dtComplete_forget : dtComplete n false w.forget = forgetRun (dtComplete n on w) :=
  dtPush_map_close_forget on n w _ _

theorem dtAbort_forget : dtAbort n false w.forget = forgetRun (dtAbort n on w) := dtPush_map_close_forget on n w _ _

theorem dtShift_forget (pulseBit : Bool) : dtShift pulseBit false n w.forget = (dtShift pulseBit on n w).forget := by
  cases on <;> rfl

theorem dtOpen_forget : dtOpen false w.forget = (dtOpen on w).forget := by
  by_cases h : w.regs.opened = true
  · rw [dtOpen, dtOpen, if_pos h, if_pos (DtWork.forget_regs w ▸ h)]
  · rw [dtOpen, dtOpen, if_neg h, if_neg (DtWork.forget_regs w ▸ h), dtTrace_forget]
    rfl

theorem dtLongGap_forget : dtLongGap n false w.forget = forgetRun (dtLongGap n on w) := by
  rw [dtLongGap, dtLongGap, dtComplete_forget on]
  cases dtComplete n on w with
  | error v => rfl
  | ok v =>
    simp only [forgetRun]
    rw [dtPush_forget]
    cases dtPush n .longGap v with
    | error u => rfl
    | ok u => cases on <;> rfl

theorem dtTicks_forget (e : Nat) : dtTicks par P false n e w.forget = forgetRun (dtTicks par P on n e w) := by
  rw [dtTicks, dtTicks, DtWork.forget_regs]
  by_cases hfull : par.byteTicks ≤ w.regs.tib.toNat + n
  · rw [if_pos hfull, if_pos hfull, dtComplete_forget]
  · rw [if_neg hfull, if_neg hfull]
    by_cases hbad : n = 0 ∨ P.tickMargin < e
    · rw [if_pos hbad, if_pos hbad, dtAbort_forget]
    · rw [if_neg hbad, if_neg hbad, dtShift_forget on]
      rfl

theorem dtPair_forget (p g : Nat) : dtPair par P false p g w.forget = forgetRun (dtPair par P on p g w) := by
  by_cases hlong : par.longGap < p ∨ par.longGap < g
  · rw [dtPair, dtPair, if_pos hlong, if_pos hlong, dtLongGap_forget]
  · rw [dtPair, dtPair, if_neg hlong, if_neg hlong, dtTicks_forget]

theorem dtLoop_forget (ds : List Nat) : dtLoop par P false ds w.forget = forgetRun (dtLoop par P on ds w) := by
  fun_induction dtLoop par P on ds w with
  | case1 w => rfl
  | case2 p w hlong =>
    rw [dtLoop, if_pos hlong, dtOpen_forget on, dtLongGap_forget on]
    cases dtLongGap par.symMax on (dtOpen on w) <;> rfl
  | case3 p w hlong =>
    rw [dtLoop, if_neg hlong, dtOpen_forget on]
    rfl
  | case4 p g ds w v hpair =>
    rw [dtLoop, dtOpen_forget on, dtPair_forget par P on, hpair]
    rfl
  | case5 p g ds w v hpair ih =>
    rw [dtLoop, dtOpen_forget on, dtPair_forget par P on, hpair]
    exact ih

/-- Decoding without the trace is decoding in the other mode (spec 60_exceptions.md R246). -/
theorem dtDecode_forget (ds : List Nat) : dtDecode par P false ds w.forget = forgetRun (dtDecode par P on ds w) := by
  rw [dtDecode, dtDecode, dtLoop_forget par P on]
  cases dtLoop par P on ds w with
  | error v => rfl
  | ok v =>
    by_cases hopen : v.regs.opened = true
    · exact (if_pos hopen).trans ((dtComplete_forget on par.symMax v).trans (congrArg forgetRun (if_pos hopen).symm))
    · exact (if_neg hopen).trans (congrArg forgetRun (if_neg hopen : _ = Except.ok v).symm)

end

/- ### What `DUTYDEC` leaves on any capture -/

/-- The number of long gaps among some symbols. -/
def longGaps (sym : List Symbol) : Nat := (sym.filter fun x => x == .longGap).length

@[simp] theorem longGaps_append (xs ys : List Symbol) : longGaps (xs ++ ys) = longGaps xs + longGaps ys := by
  simp [longGaps]

section
variable (on : Bool) (n : Nat) (w : DtWork)

@[simp] theorem dtOpen_regs : (dtOpen on w).regs = { w.regs with opened := true } := by
  by_cases h : w.regs.opened = true
  · rw [dtOpen, if_pos h, ← h]
  · rw [dtOpen, if_neg h, dtTrace_regs]

@[simp] theorem dtOpen_sym : (dtOpen on w).sym = w.sym := by
  by_cases h : w.regs.opened = true
  · rw [dtOpen, if_pos h]
  · rw [dtOpen, if_neg h, dtTrace_sym]

@[simp] theorem dtAdvance_regs : (dtAdvance n w).regs = { w.regs with cur := w.regs.cur + n } := rfl
@[simp] theorem dtAdvance_sym : (dtAdvance n w).sym = w.sym := rfl
@[simp] theorem dtAdvance_trace : (dtAdvance n w).trace = w.trace := rfl

end

/-- A push found `SYM` full: the byte in progress may have been delivered before it. -/
def dtFull (n : Nat) (w v : DtWork) : Prop :=
  n ≤ v.sym.length ∧ v.regs.cur = w.regs.cur ∧ v.regs.tib.toNat ≤ w.regs.tib.toNat ∧
    (v.sym = w.sym ∨ w.sym.length < n ∧ ∃ b, v.sym = w.sym ++ [.byte b])

/-- The byte in progress ended: its symbol is delivered, and a `LongGap` after it where one was found. -/
def dtEnded (n : Nat) (w v : DtWork) : Prop :=
  v.regs = ⟨0, 0, w.regs.cur, false⟩ ∧ v.sym.length ≤ n ∧
    ((∃ b, v.sym = w.sym ++ [.byte b]) ∨ v.sym = w.sym ++ [.byteError] ∨ ∃ b, v.sym = w.sym ++ [.byte b, .longGap])

theorem dtComplete_ends (n : Nat) (on : Bool) (w : DtWork) :
    (dtComplete n on w = .error w ∧ dtFull n w w) ∨ ∃ v, dtComplete n on w = .ok v ∧ dtEnded n w v := by
  rcases dtComplete_cases n on w with ⟨hfull, he⟩ | ⟨hroom, v, he, hsym, hregs⟩
  · exact .inl ⟨he, hfull, rfl, le_rfl, .inl rfl⟩
  · exact .inr ⟨v, he, hregs, by simpa [hsym] using hroom, .inl ⟨_, hsym⟩⟩

theorem dtAbort_ends (n : Nat) (on : Bool) (w : DtWork) :
    (dtAbort n on w = .error w ∧ dtFull n w w) ∨ ∃ v, dtAbort n on w = .ok v ∧ dtEnded n w v := by
  rcases dtAbort_cases n on w with ⟨hfull, he⟩ | ⟨hroom, v, he, hsym, hregs⟩
  · exact .inl ⟨he, hfull, rfl, le_rfl, .inl rfl⟩
  · exact .inr ⟨v, he, hregs, by simpa [hsym] using hroom, .inr (.inl hsym)⟩

theorem dtLongGap_of_ok {n : Nat} (on : Bool) {w v u : DtWork} (hcomplete : dtComplete n on w = .ok v)
    (hpush : dtPush n .longGap v = .ok u) : dtLongGap n on w = .ok (dtTrace on [.packetBoundary] u) := by
  simp [dtLongGap, hcomplete, hpush]

theorem dtLongGap_ends (n : Nat) (on : Bool) (w : DtWork) :
    (∃ v, dtLongGap n on w = .error v ∧ dtFull n w v) ∨ ∃ v, dtLongGap n on w = .ok v ∧ dtEnded n w v := by
  rcases dtComplete_cases n on w with ⟨hfull, he⟩ | ⟨hroom, v, he, hsym, hregs⟩
  · exact .inl ⟨w, by rw [dtLongGap, he], hfull, rfl, le_rfl, .inl rfl⟩
  · rcases dtPush_cases n .longGap v with ⟨hfull, hpush⟩ | ⟨hroom', hpush⟩
    · exact .inl ⟨v, by simp [dtLongGap, he, hpush], hfull, by simp [hregs], by simp [hregs], .inr ⟨hroom, _, hsym⟩⟩
    · refine .inr ⟨dtTrace on [.packetBoundary] { v with sym := v.sym ++ [.longGap] },
        dtLongGap_of_ok on he hpush, by simp [hregs], by simpa using hroom', .inr (.inr ⟨dtPadded w.regs, ?_⟩)⟩
      rw [dtTrace_sym, hsym, List.append_assoc]
      rfl

/-- What one pair can do to an open byte: end it, or shift fewer ticks into it than a byte has. -/
theorem dtPair_ends (par : EngineParams) (P : Profile) (on : Bool) (p g : Nat) (w : DtWork) :
    (∃ v, dtPair par P on p g w = .error v ∧ dtFull par.symMax w v) ∨
    (∃ v, dtPair par P on p g w = .ok v ∧ dtEnded par.symMax w v) ∨
    ∃ n, w.regs.tib.toNat + n < par.byteTicks ∧ dtPair par P on p g w = .ok (dtShift par.pulseBit on n w) := by
  unfold dtPair dtTicks
  split
  · exact (dtLongGap_ends par.symMax on w).imp_right .inl
  · split
    next => exact (dtComplete_ends par.symMax on w).imp (fun h => ⟨w, h⟩) .inl
    next hticks =>
      split
      · exact (dtAbort_ends par.symMax on w).imp (fun h => ⟨w, h⟩) .inl
      · exact .inr (.inr ⟨_, Nat.not_le.mp hticks, rfl⟩)

/-- The work after `k` whole pairs agrees with their number: at most two symbols a pair, one without the long gaps,
an open byte counted as one. -/
structure DtCounted (par : EngineParams) (k : Nat) (w : DtWork) : Prop where
  room   : w.sym.length ≤ par.symMax
  noEnd  : .endMark ∉ w.sym
  cur    : w.regs.cur = 2 * k
  closed : w.regs.opened = false → w.regs = ⟨0, 0, w.regs.cur, false⟩
  tib    : par.byteTicks ≤ 9 → w.regs.tib.toNat ≤ 8
  len    : w.sym.length + w.regs.opened.toNat ≤ 2 * k
  pairs  : w.sym.length + w.regs.opened.toNat ≤ k + longGaps w.sym

/-- The same for a work whose byte the next pulse has opened, which is not yet counted. -/
structure DtOpened (par : EngineParams) (k : Nat) (w : DtWork) : Prop where
  opened : w.regs.opened = true
  room   : w.sym.length ≤ par.symMax
  noEnd  : .endMark ∉ w.sym
  cur    : w.regs.cur = 2 * k
  tib    : par.byteTicks ≤ 9 → w.regs.tib.toNat ≤ 8
  len    : w.sym.length ≤ 2 * k
  pairs  : w.sym.length ≤ k + longGaps w.sym

/-- What a run over `total` Durations leaves: `SYM` within its bounds, and the registers cleared with the cursor at the
end, or `SYM` full. -/
structure DtBounded (par : EngineParams) (total : Nat) (w : DtWork) : Prop where
  room  : w.sym.length ≤ par.symMax
  noEnd : .endMark ∉ w.sym
  len   : w.sym.length ≤ total + 1
  pairs : w.sym.length ≤ (total + 1) / 2 + longGaps w.sym

/-- The work where `SYM` was full. -/
structure DtStopped (par : EngineParams) (total : Nat) (w : DtWork) : Prop extends DtBounded par total w where
  full  : w.sym.length = par.symMax
  early : w.sym.length ≤ total
  cur   : w.regs.cur ≤ total
  tib   : par.byteTicks ≤ 9 → w.regs.tib.toNat ≤ 8

section
variable {par : EngineParams} {k total : Nat} {w v : DtWork}

theorem DtCounted.opened (h : DtCounted par k w) (on : Bool) : DtOpened par k (dtOpen on w) := by
  obtain ⟨hroom, hend, hcur, -, htib, hlen, hpairs⟩ := h
  refine ⟨by simp, by simpa using hroom, by simpa using hend, by simpa using hcur, by simpa using htib, ?_, ?_⟩
  · rw [dtOpen_sym]
    omega
  · rw [dtOpen_sym]
    omega

/-- Where a push found `SYM` full, with at least one Duration more than the pairs counted. -/
theorem DtOpened.stopped (h : DtOpened par k w) (hv : dtFull par.symMax w v) (htotal : 2 * k + 1 ≤ total) :
    DtStopped par total v := by
  obtain ⟨-, hroom, hend, hcur, htib, hlen, hpairs⟩ := h
  obtain ⟨hfull, hcur', htib', hsym | ⟨hlt, b, hsym⟩⟩ := hv
  all_goals
    have hlen' : v.sym.length ≤ w.sym.length + 1 := by simp [hsym]
    have hgaps : longGaps v.sym = longGaps w.sym := by simp [hsym, longGaps]
    have hroom' : v.sym.length ≤ par.symMax := by simp [hsym]; omega
    have hend' : .endMark ∉ v.sym := by simpa [hsym] using hend
    exact ⟨⟨hroom', hend', by omega, by omega⟩, hroom'.antisymm hfull, by omega, by omega,
      fun hbt => htib'.trans (htib hbt)⟩

/-- Where a byte ended, `d` Durations on. -/
theorem DtOpened.ended (h : DtOpened par k w) (hv : dtEnded par.symMax w v) :
    v.regs = ⟨0, 0, 2 * k, false⟩ ∧ v.sym.length ≤ par.symMax ∧ .endMark ∉ v.sym ∧ v.sym.length ≤ 2 * k + 2 ∧
      v.sym.length ≤ k + 1 + longGaps v.sym := by
  obtain ⟨-, -, hend, hcur, -, hlen, hpairs⟩ := h
  obtain ⟨hregs, hroom, ⟨b, hsym⟩ | hsym | ⟨b, hsym⟩⟩ := hv
  all_goals
    refine ⟨hcur ▸ hregs, hroom, by simpa [hsym] using hend, by simp [hsym]; omega, ?_⟩
    rw [hsym]
    simp [longGaps] at hpairs ⊢
    omega

theorem DtOpened.pair (h : DtOpened par k w) (P : Profile) (on : Bool) (p g : Nat) :
    (∃ v, dtPair par P on p g w = .error v ∧ dtFull par.symMax w v) ∨
    ∃ v, dtPair par P on p g w = .ok v ∧ DtCounted par (k + 1) (dtAdvance 2 v) := by
  rcases dtPair_ends par P on p g w with herror | ⟨v, hv, hended⟩ | ⟨n, hn, hv⟩
  · exact .inl herror
  · obtain ⟨hregs, hroom, hend, hlen, hpairs⟩ := h.ended hended
    exact .inr ⟨v, hv, hroom, hend, by simp [hregs, Nat.mul_succ], by simp [hregs], by simp [hregs],
      by simpa [hregs, Nat.mul_succ] using hlen, by simpa [hregs] using hpairs⟩
  · obtain ⟨hopen, hroom, hend, hcur, htib, hlen, hpairs⟩ := h
    refine .inr ⟨_, hv, ?_, ?_, ?_, ?_, fun hbt => ?_, ?_, ?_⟩
    all_goals simp only [dtAdvance_regs, dtAdvance_sym, dtShift, dtTrace_regs, dtTrace_sym, hopen, Bool.toNat_true]
    · exact hroom
    · exact hend
    · omega
    · simp
    · rw [BitVec.toNat_ofNat]
      omega
    · omega
    · omega

end

/-- What a run of the decoder leaves. -/
def dtLeaves (par : EngineParams) (total : Nat) : DtRun → Prop
  | .ok w    => DtBounded par total w ∧ w.regs = ⟨0, 0, total, false⟩
  | .error w => DtStopped par total w

section
variable {par : EngineParams} {P : Profile} {on : Bool} {p g : Nat} {ds : List Nat} {w v : DtWork}

theorem dtDecode_pair_ok (h : dtPair par P on p g (dtOpen on w) = .ok v) :
    dtDecode par P on (p :: g :: ds) w = dtDecode par P on ds (dtAdvance 2 v) := by
  simp only [dtDecode, dtLoop, h]

theorem dtDecode_pair_error (h : dtPair par P on p g (dtOpen on w) = .error v) :
    dtDecode par P on (p :: g :: ds) w = .error v := by
  simp only [dtDecode, dtLoop, h]

/-- A last pulse opens a byte, and the end of the input completes it (spec 42_duty_decoder.md R128). -/
theorem dtDecode_lone (h : ¬par.longGap < p) :
    dtDecode par P on [p] w = dtComplete par.symMax on (dtAdvance 1 (dtOpen on w)) := by
  simp [dtDecode, dtLoop, h]

theorem dtDecode_lone_long_ok (h : par.longGap < p) (hgap : dtLongGap par.symMax on (dtOpen on w) = .ok v)
    (hclosed : v.regs.opened = false) : dtDecode par P on [p] w = .ok (dtAdvance 1 v) := by
  simp [dtDecode, dtLoop, h, hgap, hclosed, Except.map]

theorem dtDecode_lone_long_error (h : par.longGap < p) (hgap : dtLongGap par.symMax on (dtOpen on w) = .error v) :
    dtDecode par P on [p] w = .error v := by
  simp [dtDecode, dtLoop, h, hgap, Except.map]

theorem dtDecode_nil_opened (h : w.regs.opened = true) : dtDecode par P on [] w = dtComplete par.symMax on w :=
  if_pos h

theorem dtDecode_nil_closed (h : w.regs.opened = false) : dtDecode par P on [] w = .ok w := by
  simp [dtDecode, dtLoop, h]

end

/-- The flush of a byte still open after `k` pairs. -/
theorem DtCounted.flush {par : EngineParams} {k : Nat} {w : DtWork} (h : DtCounted par k w) (P : Profile) (on : Bool) :
    dtLeaves par (2 * k) (dtDecode par P on [] w) := by
  obtain ⟨hroom, hend, hcur, hclosed, htib, hlen, hpairs⟩ := h
  cases hopen : w.regs.opened with
  | false =>
    rw [dtDecode_nil_closed hopen]
    exact ⟨⟨hroom, hend, by omega, by omega⟩, hcur ▸ hclosed hopen⟩
  | true =>
    rw [hopen, Bool.toNat_true] at hlen hpairs
    rw [dtDecode_nil_opened hopen]
    rcases dtComplete_cases par.symMax on w with ⟨hfull, he⟩ | ⟨hlt, v, he, hsym, hregs⟩
    · rw [he]
      exact ⟨⟨hroom, hend, by omega, by omega⟩, hroom.antisymm hfull, by omega, by omega, htib⟩
    · rw [he]
      have hgaps : longGaps v.sym = longGaps w.sym := by simp [hsym, longGaps]
      have hlen' : v.sym.length = w.sym.length + 1 := by simp [hsym]
      exact ⟨⟨by omega, by simpa [hsym] using hend, by omega, by omega⟩, hcur ▸ hregs⟩

/-- A last pulse without a gap, long or not, after `k` pairs. -/
theorem DtOpened.lone {par : EngineParams} {k : Nat} {w : DtWork} (P : Profile) (on : Bool) (p : Nat)
    (h : DtOpened par k (dtOpen on w)) : dtLeaves par (2 * k + 1) (dtDecode par P on [p] w) := by
  by_cases hlong : par.longGap < p
  · rcases dtLongGap_ends par.symMax on (dtOpen on w) with ⟨v, hv, hfull⟩ | ⟨v, hv, hended⟩
    · rw [dtDecode_lone_long_error hlong hv]
      exact h.stopped hfull le_rfl
    · obtain ⟨hregs, hroom, hend, hlen, hpairs⟩ := h.ended hended
      rw [dtDecode_lone_long_ok hlong hv (by rw [hregs])]
      exact ⟨⟨hroom, hend, hlen, by rw [dtAdvance_sym]; omega⟩, by simp [hregs]⟩
  · rw [dtDecode_lone hlong]
    obtain ⟨-, hroom, hend, hcur, htib, hlen, hpairs⟩ := h
    rcases dtComplete_cases par.symMax on (dtAdvance 1 (dtOpen on w)) with ⟨hfull, he⟩ | ⟨hlt, v, he, hsym, hregs⟩
    · rw [he]
      refine ⟨⟨hroom, hend, ?_, ?_⟩, hroom.antisymm hfull, ?_, ?_, htib⟩
      all_goals simp only [dtAdvance_sym, dtAdvance_regs]; omega
    · rw [dtAdvance_sym] at hsym hlt
      have hgaps : longGaps v.sym = longGaps (dtOpen on w).sym := by simp [hsym, longGaps]
      have hlen' : v.sym.length = (dtOpen on w).sym.length + 1 := by simp [hsym]
      rw [he]
      exact ⟨⟨by omega, by simpa [hsym] using hend, by omega, by omega⟩, by rw [hregs, dtAdvance_regs, hcur]⟩

/-- The loop and the flush, from a work that agrees with the pairs before it. -/
theorem DtCounted.decode {par : EngineParams} (P : Profile) (on : Bool) :
    ∀ {k : Nat} (ds : List Nat) {w : DtWork}, DtCounted par k w →
      dtLeaves par (2 * k + ds.length) (dtDecode par P on ds w)
  | _, [], _, h => h.flush P on
  | _, [p], _, h => (h.opened on).lone P on p
  | k, p :: g :: ds, w, h => by
    have htotal : 2 * k + (p :: g :: ds).length = 2 * (k + 1) + ds.length := by
      rw [List.length_cons, List.length_cons]
      omega
    rcases (h.opened on).pair P on p g with ⟨v, hv, hfull⟩ | ⟨v, hv, hcounted⟩
    · rw [dtDecode_pair_error hv]
      exact (h.opened on).stopped hfull (by simp)
    · rw [dtDecode_pair_ok hv, htotal]
      exact DtCounted.decode P on ds hcounted

/-- The work at the start of a byte: its registers clear. -/
def dtBetween (sym : List Symbol) (trace : List TraceChar) (cur : Nat) : DtWork := ⟨⟨0, 0, cur, false⟩, sym, trace⟩

theorem dtCounted_start (par : EngineParams) : DtCounted par 0 (dtBetween [] [] 0) where
  room := by simp [dtBetween]
  noEnd := by simp [dtBetween]
  cur := rfl
  closed _ := rfl
  tib _ := by simp [dtBetween]
  len := le_rfl
  pairs := le_rfl

/-- What `DUTYDEC` leaves on any capture. -/
theorem dtDecode_leaves (par : EngineParams) (P : Profile) (on : Bool) (ds : List Nat) :
    dtLeaves par ds.length (dtDecode par P on ds (dtBetween [] [] 0)) := by
  simpa using (dtCounted_start par).decode P on ds

/-- Without diagram mode nothing is traced (spec 42_duty_decoder.md R120). -/
theorem dtDecode_off_trace {par : EngineParams} {P : Profile} {ds : List Nat} {w : DtWork}
    (h : dtDecode par P false ds (dtBetween [] [] 0) = .ok w ∨ dtDecode par P false ds (dtBetween [] [] 0) = .error w) :
    w.trace = [] := by
  have hforget : dtDecode par P false ds (dtBetween [] [] 0) =
      forgetRun (dtDecode par P false ds (dtBetween [] [] 0)) := dtDecode_forget par P false (dtBetween [] [] 0) ds
  rcases h with h | h
  · rw [h, forgetRun, Except.ok.injEq] at hforget
    rw [hforget, DtWork.forget_trace]
  · rw [h, forgetRun, Except.error.injEq] at hforget
    rw [hforget, DtWork.forget_trace]

theorem tickLen_pos_of_hasProfile {s : State} {P : Profile} (h : hasProfile .duty s P) : 1 ≤ P.tickLen := by
  obtain ⟨-, hkind, hwf⟩ := h
  simp only [profileWellFormed, hkind, tickConditions, Bool.and_eq_true, decide_eq_true_eq] at hwf
  obtain ⟨-, ⟨⟨hT, -⟩, -⟩, -⟩ := hwf
  exact hT

section
variable {t : Bool} {s : State} {P : Profile} {w : DtWork}

theorem exec_dutydec_of_hasProfile (h : hasProfile .duty s P) (t : Bool) :
    exec (.dutydec t) s = (dutydecCore t P s).toOutcome := by
  have hT := Nat.one_le_iff_ne_zero.mp (tickLen_pos_of_hasProfile h)
  obtain ⟨hsel, hkind, hwf⟩ := h
  rw [exec_dutydec, withKind_some hsel, if_pos hkind, if_neg hT, admitting_of_wellFormed hwf]

theorem dutydecCore_ok (hT : P.tickLen ≠ 0) (h : dtDecode s.par P t s.cap (dtBetween [] [] 0) = .ok w) :
    dutydecCore t P s = .ok (dtStore w (dtStart t s)) := by
  rw [dutydecCore, if_neg hT, show dtDecode s.par P t s.cap ⟨⟨0, 0, 0, false⟩, [], []⟩ = .ok w from h]

theorem dutydecCore_error (hT : P.tickLen ≠ 0) (h : dtDecode s.par P t s.cap (dtBetween [] [] 0) = .error w) :
    dutydecCore t P s = .halted (takeFault .symOverflow (dtStore w (dtStart t s))) := by
  rw [dutydecCore, if_neg hT, show dtDecode s.par P t s.cap ⟨⟨0, 0, 0, false⟩, [], []⟩ = .error w from h]
  rfl

end

/-- Settles O28: what the decoding of the capture leaves, written back. -/
theorem dutydecChangesOnlyItsOutputs : Obligations.DutydecChangesOnlyItsOutputs := by
  intro s P t h
  have hT := Nat.one_le_iff_ne_zero.mp (tickLen_pos_of_hasProfile h)
  have hleaves := dtDecode_leaves s.par P t s.cap
  rw [exec_dutydec_of_hasProfile h]
  cases hrun : dtDecode s.par P t s.cap (dtBetween [] [] 0) with
  | ok w =>
    rw [hrun] at hleaves
    obtain ⟨⟨-, hend, hlen, hpairs⟩, hregs⟩ := hleaves
    refine ⟨w.sym, w.regs, w.trace, s.fault, by rw [dutydecCore_ok hT hrun]; rfl, ?_, .inl rfl, hend, hlen, hpairs,
      fun _ => ⟨rfl, hregs⟩⟩
    rintro rfl
    exact dtDecode_off_trace (.inl hrun)
  | error w =>
    rw [hrun] at hleaves
    obtain ⟨⟨-, hend, hlen, hpairs⟩, hfull, hearly, -, -⟩ := hleaves
    refine ⟨w.sym, w.regs, w.trace, ⟨true, 4⟩, by rw [dutydecCore_error hT hrun]; rfl, ?_, .inr ⟨rfl, hfull⟩, hend,
      hlen, hpairs, fun hroom => by omega⟩
    rintro rfl
    exact dtDecode_off_trace (.inr hrun)

/- ### What a pair does to a byte in progress -/

section
variable (on : Bool) (sym : List Symbol) (tr : List TraceChar) (ns : List Nat) (cur : Nat)

/-- The marks of diagram mode, none without it (spec 42_duty_decoder.md R131). -/
def marks (cs : List TraceChar) : List TraceChar := if on then cs else []

/-- The work in a byte into which pairs of `ns` ticks were shifted, `sym` and `tr` what stands before the byte (spec
42_duty_decoder.md R122, R126). -/
def dtInByte : DtWork :=
  ⟨⟨bitsByte (tickBits ns), BitVec.ofNat 4 ns.sum, cur, true⟩, sym, tr ++ marks on (.pulse :: bitMarks (tickBits ns))⟩

@[simp] theorem dtTrace_eq_marks (cs : List TraceChar) (w : DtWork) :
    dtTrace on cs w = { w with trace := w.trace ++ marks on cs } := by
  cases on <;> simp [marks]

theorem marks_append (cs ds : List TraceChar) : marks on (cs ++ ds) = marks on cs ++ marks on ds := by
  cases on <;> rfl

theorem bitMarks_append (xs ys : List Bool) : bitMarks (xs ++ ys) = bitMarks xs ++ bitMarks ys := by simp [bitMarks]

@[simp] theorem bitMarks_replicate_true (n : Nat) : bitMarks (List.replicate n true) = List.replicate n .noPulse := by
  simp [bitMarks]

/-- A pair of `n` ticks shifts `n` bits. -/
theorem tickBits_length {ns : List Nat} (h : ∀ n ∈ ns, 1 ≤ n) : (tickBits ns).length = ns.sum := by
  induction ns with
  | nil => rfl
  | cons n ns ih =>
    obtain ⟨hn, hns⟩ := List.forall_mem_cons.mp h
    have htail : tickBits (n :: ns) = List.replicate (n - 1) true ++ [false] ++ tickBits ns := rfl
    rw [htail, List.length_append, ih hns, List.length_append, List.length_replicate, List.length_singleton,
      Nat.sub_add_cancel hn, List.sum_cons]

theorem dtOpen_dtBetween : dtOpen on (dtBetween sym tr cur) = dtInByte on sym tr [] cur := by
  simp [dtOpen, dtBetween, dtInByte, tickBits, bitMarks]

@[simp] theorem dtOpen_dtInByte : dtOpen on (dtInByte on sym tr ns cur) = dtInByte on sym tr ns cur := rfl

@[simp] theorem dtAdvance_dtInByte (k : Nat) :
    dtAdvance k (dtInByte on sym tr ns cur) = dtInByte on sym tr ns (cur + k) := rfl

@[simp] theorem dtAdvance_dtBetween (k : Nat) : dtAdvance k (dtBetween sym tr cur) = dtBetween sym tr (cur + k) := rfl

theorem marks_complete :
    tr ++ marks on (.pulse :: bitMarks (tickBits ns)) ++
        marks on (List.replicate (8 - ns.sum) .noPulse ++ [.byteBoundary]) =
      tr ++ marks on (.pulse :: bitMarks (paddedBits ns) ++ [.byteBoundary]) := by
  rw [List.append_assoc, ← marks_append, paddedBits, bitMarks_append, bitMarks_replicate_true]
  simp

variable {ns} (hns : ∀ n ∈ ns, 1 ≤ n) (hsum : ns.sum ≤ 8)
include hsum

theorem dtInByte_tib : (dtInByte on sym tr ns cur).regs.tib.toNat = ns.sum := by
  rw [dtInByte, BitVec.toNat_ofNat]
  omega

include hns

/-- `n - 1` ones and the pulse bit (spec 42_duty_decoder.md R126). -/
theorem dtShift_dtInByte (n : Nat) :
    dtShift false on n (dtInByte on sym tr ns cur) = dtInByte on sym tr (ns ++ [n]) cur := by
  have hlen := tickBits_length hns
  have hbits : tickBits (ns ++ [n]) = tickBits ns ++ List.replicate (n - 1) true ++ [false] := by
    simp [tickBits]
  have hacc : bitsByte (tickBits (ns ++ [n])) =
      bitsByte (tickBits ns) ||| onesFrom ns.sum (n - 1) ||| bitAt false (ns.sum + (n - 1)) := by
    rw [hbits, bitsByte_append_bit, bitsByte_append_ones, List.length_append, List.length_replicate, hlen]
  have hmarks : tr ++ marks on (.pulse :: bitMarks (tickBits (ns ++ [n]))) =
      tr ++ marks on (.pulse :: bitMarks (tickBits ns)) ++ marks on (List.replicate (n - 1) .noPulse ++ [.pulse]) := by
    rw [hbits, bitMarks_append, bitMarks_append, bitMarks_replicate_true, List.append_assoc tr, ← marks_append]
    simp [bitMarks]
  have hsum' : (ns ++ [n]).sum = ns.sum + n := by simp
  rw [dtShift, dtTrace_eq_marks, dtInByte_tib on sym tr cur hsum, dtInByte, dtInByte, hacc, hmarks, hsum']

/-- The bits padded with ones (spec 42_duty_decoder.md R124). -/
theorem dtPadded_dtInByte : dtPadded (dtInByte on sym tr ns cur).regs = bitsByte (paddedBits ns) := by
  rw [dtPadded, dtInByte_tib on sym tr cur hsum, paddedBits, bitsByte_append_ones, tickBits_length hns]
  rfl

theorem dtComplete_dtInByte {symMax : Nat} (hroom : sym.length < symMax) :
    dtComplete symMax on (dtInByte on sym tr ns cur) =
      .ok (dtBetween (sym ++ [.byte (bitsByte (paddedBits ns))])
        (tr ++ marks on (.pulse :: bitMarks (paddedBits ns) ++ [.byteBoundary])) cur) := by
  have hpush : dtPush symMax (.byte (bitsByte (paddedBits ns))) (dtInByte on sym tr ns cur) =
      .ok { dtInByte on sym tr ns cur with sym := sym ++ [.byte (bitsByte (paddedBits ns))] } :=
    if_neg (Nat.not_le.mpr hroom)
  rw [dtComplete, dtPadded_dtInByte on sym tr cur hns hsum, hpush, dtInByte_tib on sym tr cur hsum, Except.map,
    dtTrace_eq_marks, ← marks_complete on tr ns]
  rfl

omit hns hsum in
theorem dtAbort_dtInByte {symMax : Nat} (hroom : sym.length < symMax) :
    dtAbort symMax on (dtInByte on sym tr ns cur) =
      .ok (dtBetween (sym ++ [.byteError])
        (tr ++ marks on (.pulse :: bitMarks (tickBits ns) ++ [.abortedByte])) cur) := by
  have hpush : dtPush symMax .byteError (dtInByte on sym tr ns cur) =
      .ok { dtInByte on sym tr ns cur with sym := sym ++ [.byteError] } := if_neg (Nat.not_le.mpr hroom)
  rw [dtAbort, hpush, Except.map, dtTrace_eq_marks, marks_append, ← List.append_assoc]
  rfl

theorem dtLongGap_dtInByte {symMax : Nat} (hroom : sym.length + 1 < symMax) :
    dtLongGap symMax on (dtInByte on sym tr ns cur) =
      .ok (dtBetween (sym ++ [.byte (bitsByte (paddedBits ns)), .longGap])
        (tr ++ marks on (.pulse :: bitMarks (paddedBits ns) ++ [.byteBoundary, .packetBoundary])) cur) := by
  have hpush : dtPush symMax .longGap (dtBetween (sym ++ [.byte (bitsByte (paddedBits ns))])
      (tr ++ marks on (.pulse :: bitMarks (paddedBits ns) ++ [.byteBoundary])) cur) =
      .ok (dtBetween (sym ++ [.byte (bitsByte (paddedBits ns))] ++ [.longGap])
        (tr ++ marks on (.pulse :: bitMarks (paddedBits ns) ++ [.byteBoundary])) cur) :=
    if_neg (Nat.not_le.mpr (by simpa [dtBetween] using hroom))
  have htrace : tr ++ marks on (.pulse :: bitMarks (paddedBits ns) ++ [.byteBoundary, .packetBoundary]) =
      tr ++ marks on (.pulse :: bitMarks (paddedBits ns) ++ [.byteBoundary]) ++ marks on [.packetBoundary] := by
    rw [List.append_assoc tr, ← marks_append, List.append_assoc]
    rfl
  rw [dtLongGap_of_ok on (dtComplete_dtInByte on sym tr cur hns hsum (Nat.lt_of_succ_lt hroom)) hpush,
    dtTrace_eq_marks, htrace, List.append_assoc sym]
  rfl

end

/- ### Pairs on the grid -/

theorem measures_iff {s : State} {P : Profile} (h : hasProfile .duty s P) {d n e : Nat} :
    measures s d n e ↔ quantize s.par.quantTie d P.tickLen = (n, e) := by
  have hexec := exec_quant_of_wellFormed (s := { s with op := ⟨d, 0⟩ }) h.1 h.2.2 (tickLen_pos_of_hasProfile h)
  rw [measures, hexec]
  constructor
  · intro heq
    injection heq with heq
    injection congrArg State.tq heq with hn he
    exact Prod.ext hn he
  · intro heq
    rw [heq]

section
variable {par : EngineParams} {P : Profile} {on : Bool} {sym : List Symbol} {tr : List TraceChar} {ns : List Nat}
  {cur p g n e : Nat}

/-- Not long, `n` ticks and an error `e`: completion is tested first, then the margin (spec 42_duty_decoder.md R127). -/
theorem dtPair_of_not_long (hlong : ¬longPair par p g) (hq : quantize par.quantTie (p + g) P.tickLen = (n, e))
    (w : DtWork) : dtPair par P on p g w = dtTicks par P on n e w := by
  simp only [dtPair, hq]
  exact if_neg hlong

theorem dtTicks_full (hdoc : documentDuty par) (hsum : ns.sum ≤ 8) (hfull : 9 ≤ ns.sum + n) :
    dtTicks par P on n e (dtInByte on sym tr ns cur) = dtComplete par.symMax on (dtInByte on sym tr ns cur) := by
  rw [dtTicks, dtInByte_tib on sym tr cur hsum, hdoc.1, if_pos hfull]

theorem dtTicks_off_grid (hdoc : documentDuty par) (hsum : ns.sum ≤ 8) (hfull : ns.sum + n ≤ 8)
    (hbad : n = 0 ∨ P.tickMargin < e) :
    dtTicks par P on n e (dtInByte on sym tr ns cur) = dtAbort par.symMax on (dtInByte on sym tr ns cur) := by
  rw [dtTicks, dtInByte_tib on sym tr cur hsum, hdoc.1, if_neg (by omega), if_pos hbad]

theorem dtTicks_on_grid (hdoc : documentDuty par) (hns : ∀ n ∈ ns, 1 ≤ n) (hsum : ns.sum ≤ 8)
    (hfull : ns.sum + n ≤ 8) (hn : 1 ≤ n) (he : e ≤ P.tickMargin) :
    dtTicks par P on n e (dtInByte on sym tr ns cur) = .ok (dtInByte on sym tr (ns ++ [n]) cur) := by
  rw [dtTicks, dtInByte_tib on sym tr cur hsum, hdoc.1, if_neg (by omega), if_neg (by omega), hdoc.2,
    dtShift_dtInByte on sym tr cur hns hsum]

section
variable (ds : List Nat) (hsum : ns.sum ≤ 8)

theorem dtDecode_pair_off_grid (hdoc : documentDuty par) (hlong : ¬longPair par p g)
    (hq : quantize par.quantTie (p + g) P.tickLen = (n, e)) (hfull : ns.sum + n ≤ 8) (hbad : n = 0 ∨ P.tickMargin < e)
    (hroom : sym.length < par.symMax) :
    dtDecode par P on (p :: g :: ds) (dtInByte on sym tr ns cur) =
      dtDecode par P on ds (dtBetween (sym ++ [.byteError])
        (tr ++ marks on (.pulse :: bitMarks (tickBits ns) ++ [.abortedByte])) (cur + 2)) := by
  have hpair := (dtPair_of_not_long (on := on) hlong hq (dtInByte on sym tr ns cur)).trans
    ((dtTicks_off_grid hdoc (by omega) hfull hbad).trans (dtAbort_dtInByte on sym tr cur hroom))
  rw [← dtOpen_dtInByte] at hpair
  rw [dtDecode_pair_ok hpair, dtAdvance_dtBetween]

variable (hns : ∀ n ∈ ns, 1 ≤ n)
include hsum hns

theorem dtDecode_pair_long (hlong : longPair par p g) (hroom : sym.length + 1 < par.symMax) :
    dtDecode par P on (p :: g :: ds) (dtInByte on sym tr ns cur) =
      dtDecode par P on ds (dtBetween (sym ++ [.byte (bitsByte (paddedBits ns)), .longGap])
        (tr ++ marks on (.pulse :: bitMarks (paddedBits ns) ++ [.byteBoundary, .packetBoundary])) (cur + 2)) := by
  have hpair : dtPair par P on p g (dtInByte on sym tr ns cur) = _ :=
    (if_pos hlong).trans (dtLongGap_dtInByte on sym tr cur hns hsum hroom)
  rw [← dtOpen_dtInByte] at hpair
  rw [dtDecode_pair_ok hpair, dtAdvance_dtBetween]

theorem dtDecode_pair_full (hdoc : documentDuty par) (hlong : ¬longPair par p g)
    (hq : quantize par.quantTie (p + g) P.tickLen = (n, e)) (hfull : 9 ≤ ns.sum + n)
    (hroom : sym.length < par.symMax) :
    dtDecode par P on (p :: g :: ds) (dtInByte on sym tr ns cur) =
      dtDecode par P on ds (dtBetween (sym ++ [.byte (bitsByte (paddedBits ns))])
        (tr ++ marks on (.pulse :: bitMarks (paddedBits ns) ++ [.byteBoundary])) (cur + 2)) := by
  have hpair := (dtPair_of_not_long (on := on) hlong hq (dtInByte on sym tr ns cur)).trans
    ((dtTicks_full hdoc hsum hfull).trans (dtComplete_dtInByte on sym tr cur hns hsum hroom))
  rw [← dtOpen_dtInByte] at hpair
  rw [dtDecode_pair_ok hpair, dtAdvance_dtBetween]

theorem dtDecode_pair_on_grid (hdoc : documentDuty par) (hlong : ¬longPair par p g)
    (hq : quantize par.quantTie (p + g) P.tickLen = (n, e)) (hfull : ns.sum + n ≤ 8) (hn : 1 ≤ n)
    (he : e ≤ P.tickMargin) :
    dtDecode par P on (p :: g :: ds) (dtInByte on sym tr ns cur) =
      dtDecode par P on ds (dtInByte on sym tr (ns ++ [n]) (cur + 2)) := by
  have hpair := (dtPair_of_not_long (on := on) hlong hq (dtInByte on sym tr ns cur)).trans
    (dtTicks_on_grid hdoc hns hsum hfull hn he)
  rw [← dtOpen_dtInByte] at hpair
  rw [dtDecode_pair_ok hpair, dtAdvance_dtInByte]

/-- The end of the input completes the byte in progress. -/
theorem dtDecode_flush (hroom : sym.length < par.symMax) :
    dtDecode par P on [] (dtInByte on sym tr ns cur) =
      .ok (dtBetween (sym ++ [.byte (bitsByte (paddedBits ns))])
        (tr ++ marks on (.pulse :: bitMarks (paddedBits ns) ++ [.byteBoundary])) cur) :=
  (dtDecode_nil_opened rfl).trans (dtComplete_dtInByte on sym tr cur hns hsum hroom)

theorem dtDecode_last_pulse (hlong : ¬par.longGap < p) (hroom : sym.length < par.symMax) :
    dtDecode par P on [p] (dtInByte on sym tr ns cur) =
      .ok (dtBetween (sym ++ [.byte (bitsByte (paddedBits ns))])
        (tr ++ marks on (.pulse :: bitMarks (paddedBits ns) ++ [.byteBoundary])) (cur + 1)) :=
  (dtDecode_lone hlong).trans (dtComplete_dtInByte on sym tr (cur + 1) hns hsum hroom)

theorem dtDecode_last_pulse_long (hlong : par.longGap < p) (hroom : sym.length + 1 < par.symMax) :
    dtDecode par P on [p] (dtInByte on sym tr ns cur) =
      .ok (dtBetween (sym ++ [.byte (bitsByte (paddedBits ns)), .longGap])
        (tr ++ marks on (.pulse :: bitMarks (paddedBits ns) ++ [.byteBoundary, .packetBoundary])) (cur + 1)) := by
  have hgap := dtLongGap_dtInByte on sym tr cur hns hsum hroom
  rw [← dtOpen_dtInByte] at hgap
  rw [dtDecode_lone_long_ok hlong hgap rfl, dtAdvance_dtBetween]

end

/-- A pair that shifts `n` ticks. -/
def shifts (par : EngineParams) (P : Profile) (x : Nat × Nat) (n : Nat) : Prop :=
  ¬longPair par x.1 x.2 ∧ 1 ≤ n ∧ ∃ e, e ≤ P.tickMargin ∧ quantize par.quantTie (x.1 + x.2) P.tickLen = (n, e)

/-- Pairs on the grid shift their ticks into the byte in progress, one after the other. -/
theorem dtDecode_shifts (hdoc : documentDuty par) {xs : List ((Nat × Nat) × Nat)}
    (hxs : ∀ x ∈ xs, shifts par P x.1 x.2) (hns : ∀ n ∈ ns, 1 ≤ n) (hsum : (ns ++ xs.map (·.2)).sum ≤ 8)
    (ds : List Nat) :
    dtDecode par P on (pairDurations (xs.map (·.1)) ++ ds) (dtInByte on sym tr ns cur) =
      dtDecode par P on ds (dtInByte on sym tr (ns ++ xs.map (·.2)) (cur + 2 * xs.length)) := by
  induction xs generalizing ns cur with
  | nil => simp [pairDurations]
  | cons x xs ih =>
    obtain ⟨⟨hlong, hn, e, he, hq⟩, hrest⟩ := List.forall_mem_cons.mp hxs
    have hsum' : ns.sum + x.2 + (xs.map (·.2)).sum ≤ 8 := by simpa [Nat.add_assoc] using hsum
    have hns' : ∀ n ∈ ns ++ [x.2], 1 ≤ n := List.forall_mem_append.mpr ⟨hns, List.forall_mem_singleton.mpr hn⟩
    have hstep := dtDecode_pair_on_grid (on := on) (sym := sym) (tr := tr) (cur := cur)
      (pairDurations (xs.map (·.1)) ++ ds) (by omega) hns hdoc hlong hq (by omega) hn he
    rw [ih hrest hns' (by simpa using hsum), List.append_assoc, List.singleton_append] at hstep
    rw [List.length_cons, Nat.mul_succ, Nat.add_comm (2 * xs.length), ← Nat.add_assoc]
    exact hstep

/-- The first Duration of a byte opens it (spec 42_duty_decoder.md R122). -/
theorem dtDecode_dtBetween {ds : List Nat} (hds : ds ≠ []) :
    dtDecode par P on ds (dtBetween sym tr cur) = dtDecode par P on ds (dtInByte on sym tr [] cur) := by
  match ds, hds with
  | [p], _ | p :: g :: ds, _ => simp only [dtDecode, dtLoop, dtOpen_dtBetween, dtOpen_dtInByte]

end

/-- What the decoding of the capture leaves, for an operation under its profile. -/
theorem exec_dutydec_ok {s : State} {P : Profile} {t : Bool} {sym : List Symbol} {tr : List TraceChar} {cur : Nat}
    (h : hasProfile .duty s P)
    (hdecode : dtDecode s.par P t s.cap (dtBetween [] [] 0) = .ok (dtBetween sym tr cur)) :
    exec (.dutydec t) s = .next
      { s with sym := sym, dt := ⟨0, 0, cur, false⟩, cfg := { s.cfg with trace := t }, trace := tr } := by
  rw [exec_dutydec_of_hasProfile h,
    dutydecCore_ok (Nat.one_le_iff_ne_zero.mp (tickLen_pos_of_hasProfile h)) hdecode]
  rfl

/-- `DUTYDEC` on pairs that shift their ticks into a first byte, then `ds`. -/
theorem exec_dutydec_shifts {s : State} {P : Profile} {t : Bool} {xs : List ((Nat × Nat) × Nat)} {ds : List Nat}
    {sym : List Symbol} {cs : List TraceChar} (h : hasProfile .duty s P) (hdoc : documentDuty s.par)
    (hxs : ∀ x ∈ xs, shifts s.par P x.1 x.2) (hsum : (xs.map (·.2)).sum ≤ 8)
    (hcap : s.cap = pairDurations (xs.map (·.1)) ++ ds) (hds : ds ≠ [])
    (hlast : dtDecode s.par P t ds (dtInByte t [] [] (xs.map (·.2)) (2 * xs.length)) =
      .ok (dtBetween sym (marks t cs) (2 * xs.length + ds.length))) :
    exec (.dutydec t) s = .next
      { s with
        sym := sym
        dt := ⟨0, 0, s.cap.length, false⟩
        cfg := { s.cfg with trace := t }
        trace := if t then cs else [] } := by
  have hlen : s.cap.length = 2 * xs.length + ds.length := by
    simp [hcap, pairDurations, Function.comp_def, Nat.mul_comm]
  refine exec_dutydec_ok h ?_
  rw [hlen, hcap, dtDecode_dtBetween (by simp [hds]), dtDecode_shifts hdoc hxs (by simp) hsum, Nat.zero_add,
    List.nil_append]
  exact hlast

/-- Settles O29: the pairs before shift their ticks, and the last pair or pulse does what its case says. -/
theorem dutydecClassifiesAPair : Obligations.DutydecClassifiesAPair := by
  rintro s P t xs ns p g h hdoc hsymMax hxs rfl hsum
  have hshifts : ∀ x ∈ xs, shifts s.par P x.1 x.2 := fun x hx => by
    obtain ⟨hlong, hn, e, he, hq⟩ := hxs x hx
    exact ⟨hlong, hn, e, he, (measures_iff h).mp hq⟩
  have hns : ∀ n ∈ xs.map (·.2), 1 ≤ n := List.forall_mem_map.mpr fun x hx => (hshifts x hx).2.1
  have hone : ([] : List Symbol).length < s.par.symMax := Nat.lt_of_lt_of_le (by decide) hsymMax
  have htwo : ([] : List Symbol).length + 1 < s.par.symMax := hsymMax
  refine ⟨fun hcap => ⟨_, _, (measures_iff h).mpr rfl, fun hlong => ?_, fun hlong hfull => ?_,
    fun hlong hfull hbad => ?_, fun hlong hfull hn he => ?_⟩, fun hcap => ?_⟩
  · exact exec_dutydec_shifts h hdoc hshifts hsum hcap (by simp) (dtDecode_pair_long [] hsum hns hlong htwo)
  · exact exec_dutydec_shifts h hdoc hshifts hsum hcap (by simp)
      (dtDecode_pair_full [] hsum hns hdoc hlong rfl hfull hone)
  · exact exec_dutydec_shifts h hdoc hshifts hsum hcap (by simp)
      (dtDecode_pair_off_grid [] hdoc hlong rfl hfull hbad hone)
  · refine exec_dutydec_shifts h hdoc hshifts hsum hcap (by simp)
      ((dtDecode_pair_on_grid [] hsum hns hdoc hlong rfl hfull hn he).trans ?_)
    have hns' : ∀ m ∈ xs.map (·.2) ++ [_], 1 ≤ m := List.forall_mem_append.mpr ⟨hns, List.forall_mem_singleton.mpr hn⟩
    exact dtDecode_flush (by rwa [List.sum_append, List.sum_singleton]) hns' hone
  · by_cases hlong : s.par.longGap < p
    · rw [if_pos hlong, if_pos hlong]
      exact exec_dutydec_shifts h hdoc hshifts hsum hcap (by simp) (dtDecode_last_pulse_long hsum hns hlong htwo)
    · rw [if_neg hlong, if_neg hlong]
      exact exec_dutydec_shifts h hdoc hshifts hsum hcap (by simp) (dtDecode_last_pulse hsum hns hlong hone)

end Sys2Proof.Machine
end

section
/-! The round trip of spec 42_duty_decoder.md R132: what a channel shows of a duty emission as pairs of a pulse and a
gap, the ticks from pulse to pulse, and what `DUTYDEC` makes of the pairs of each byte. -/

namespace Sys2Proof.Machine

/- ### From pulse to pulse -/

/-- The tick counts from each pulse to the next, after a start pulse and the ticks of `bits`, a pulse for 0, with `idle`
ticks after them. -/
def pulseGaps : List Bool → Nat → List Nat
  | [], idle => [1 + idle]
  | false :: bits, idle => 1 :: pulseGaps bits idle
  | true :: bits, idle =>
    match pulseGaps bits idle with
    | [] => []
    | n :: ns => (n + 1) :: ns

/-- The counts before the last one are the bits up to the last 0, one tick a bit; the last count is what is left. -/
theorem pulseGaps_spec (bits : List Bool) (idle : Nat) :
    ∃ ns m, pulseGaps bits idle = ns ++ [m] ∧ (∀ n ∈ ns, 1 ≤ n) ∧ 1 ≤ m ∧ ns.sum ≤ bits.length ∧
      ns.sum + m = bits.length + 1 + idle ∧ tickBits ns ++ List.replicate (bits.length - ns.sum) true = bits := by
  induction bits with
  | nil => exact ⟨[], 1 + idle, rfl, by simp, by omega, le_rfl, by simp, rfl⟩
  | cons b bits ih =>
    obtain ⟨ns, m, hgaps, hns, hm, hle, hsum, hbits⟩ := ih
    cases b with
    | false =>
      refine ⟨1 :: ns, m, by simp [pulseGaps, hgaps], by simpa using hns, hm, ?_, ?_, ?_⟩
      · rw [List.sum_cons, List.length_cons]
        omega
      · rw [List.sum_cons, List.length_cons]
        omega
      · rw [List.sum_cons, List.length_cons, Nat.add_comm 1, Nat.add_sub_add_right]
        exact congrArg (false :: ·) hbits
    | true =>
      cases ns with
      | nil =>
        refine ⟨[], m + 1, by simp [pulseGaps, hgaps], by simp, by omega, by simp, by simp at hsum ⊢; omega, ?_⟩
        exact congrArg (true :: ·) hbits
      | cons n ns =>
        obtain ⟨hn, hns⟩ := List.forall_mem_cons.mp hns
        rw [List.sum_cons] at hle hsum
        refine ⟨(n + 1) :: ns, m, by simp [pulseGaps, hgaps], by simpa using hns, hm, ?_, ?_, ?_⟩
        · rw [List.sum_cons, List.length_cons]
          omega
        · rw [List.sum_cons, List.length_cons]
          omega
        · rw [List.sum_cons, List.length_cons, show bits.length + 1 - (n + 1 + ns.sum) = bits.length - (n + ns.sum) by
            omega, ← List.sum_cons]
          have hhead : tickBits ((n + 1) :: ns) = true :: tickBits (n :: ns) := by
            obtain ⟨k, rfl⟩ := Nat.exists_eq_add_of_le' hn
            rfl
          rw [hhead]
          exact congrArg (true :: ·) hbits

/- ### Level runs -/

/-- A pulse and what is left of its `n` ticks. -/
def tickPair (P : Profile) (n : Nat) : Nat × Nat := (P.dutyPulseSend, n * P.tickLen - P.dutyPulseSend)

theorem pairDurations_length (xs : List (Nat × Nat)) : (pairDurations xs).length = 2 * xs.length := by
  simp [pairDurations, Nat.mul_comm]

/-- Pulses at level 1, gaps at level 0. -/
def pairRuns (xs : List (Nat × Nat)) : List (Bool × Nat) := xs.flatMap fun x => [(true, x.1), (false, x.2)]

@[simp] theorem pairRuns_nil : pairRuns [] = [] := rfl

@[simp] theorem pairRuns_cons (x : Nat × Nat) (xs : List (Nat × Nat)) :
    pairRuns (x :: xs) = (true, x.1) :: (false, x.2) :: pairRuns xs := rfl

theorem pairRuns_map_snd (xs : List (Nat × Nat)) : (pairRuns xs).map (·.2) = pairDurations xs := by
  rw [pairRuns, List.map_flatMap, pairDurations]
  rfl

/-- The entries of a data tick with pulse bit 0. -/
def bitTick (P : Profile) (b : Bool) : List EmitEntry := if b then [.level false P.tickLen] else pulseTick P

theorem byteEntries_eq_bitTicks (P : Profile) (v : Byte) :
    byteEntries false P v =
      pulseTick P ++ ((byteBits v).flatMap (bitTick P) ++
        List.replicate P.dutyStopTicks.toNat (.level false P.tickLen)) := by
  have hbit (k : Nat) : (if v.getLsbD k = false then pulseTick P else [.level false P.tickLen]) =
      bitTick P (v.getLsbD k) := by
    cases v.getLsbD k <;> rfl
  rw [byteEntries, funext hbit, byteBits, List.flatMap_map, List.append_assoc]
  rfl

/-- Runs that do not start at level 0, so that a gap before them stays a run of its own. -/
def startsHigh (rs : List (Bool × Nat)) : Prop := ∀ r ∈ rs.head?, r.1 = true

theorem startsHigh_pairRuns (xs : List (Nat × Nat)) : startsHigh (pairRuns xs) := by
  cases xs <;> simp [startsHigh, pairRuns]

section
variable {es : List EmitEntry} {rs : List (Bool × Nat)} {d e : Nat}

theorem levelRuns_low_of_startsHigh (hes : levelRuns es = rs) (hrs : startsHigh rs) :
    levelRuns (.level false d :: es) = (false, d) :: rs := by
  rcases rs with _ | ⟨⟨l, e⟩, rs⟩
  · simp [levelRuns, hes]
  · have hl : l = true := hrs (l, e) rfl
    simp [levelRuns, hes, hl]

theorem levelRuns_low_merge (hes : levelRuns es = (false, e) :: rs) :
    levelRuns (.level false d :: es) = (false, d + e) :: rs := by
  simp [levelRuns, hes]

theorem levelRuns_high (hes : levelRuns es = (false, e) :: rs) :
    levelRuns (.level true d :: es) = (true, d) :: (false, e) :: rs := by
  simp [levelRuns, hes]

/-- Idle ticks lengthen the gap before them. -/
theorem levelRuns_idle (P : Profile) (idle : Nat) (hes : levelRuns es = rs) (hrs : startsHigh rs) (d : Nat) :
    levelRuns (.level false d :: (List.replicate idle (.level false P.tickLen) ++ es)) =
      (false, d + idle * P.tickLen) :: rs := by
  induction idle generalizing d with
  | zero => simpa using levelRuns_low_of_startsHigh hes hrs
  | succ idle ih =>
    rw [List.replicate_succ, List.cons_append, levelRuns_low_merge (ih P.tickLen), Nat.succ_mul, Nat.add_comm P.tickLen]

variable {P : Profile} (hpulse : P.dutyPulseSend < P.tickLen)
include hpulse

theorem pulseTick_eq : pulseTick P = [.level true P.dutyPulseSend, .level false (P.tickLen - P.dutyPulseSend)] :=
  if_pos hpulse

theorem bitTick_false :
    bitTick P false = [.level true P.dutyPulseSend, .level false (P.tickLen - P.dutyPulseSend)] := pulseTick_eq hpulse

/-- What is left of `n` ticks after their pulse. -/
theorem rest_of_tick {n : Nat} (hn : 1 ≤ n) :
    P.tickLen - P.dutyPulseSend + (n - 1) * P.tickLen = n * P.tickLen - P.dutyPulseSend := by
  have hmul : n * P.tickLen = (n - 1) * P.tickLen + P.tickLen := by
    rw [← Nat.succ_mul, Nat.succ_eq_add_one, Nat.sub_add_cancel hn]
  omega

/-- The ticks of some bits after a gap `d`: the gap grows to the next pulse, and each pulse starts a pair. -/
theorem levelRuns_ticks (bits : List Bool) (idle : Nat) (hes : levelRuns es = rs) (hrs : startsHigh rs) (d : Nat) :
    ∃ n ns, pulseGaps bits idle = n :: ns ∧ 1 ≤ n ∧
      levelRuns (.level false d :: (bits.flatMap (bitTick P) ++
        (List.replicate idle (.level false P.tickLen) ++ es))) =
        (false, d + (n - 1) * P.tickLen) :: (pairRuns (ns.map (tickPair P)) ++ rs) := by
  induction bits generalizing d with
  | nil =>
    refine ⟨1 + idle, [], rfl, by omega, ?_⟩
    rw [Nat.add_sub_cancel_left]
    exact levelRuns_idle P idle hes hrs d
  | cons b bits ih =>
    cases b with
    | false =>
      obtain ⟨n, ns, hgaps, hn, hruns⟩ := ih (P.tickLen - P.dutyPulseSend)
      refine ⟨1, n :: ns, by simp [pulseGaps, hgaps], le_rfl, ?_⟩
      rw [rest_of_tick hpulse hn] at hruns
      rw [List.flatMap_cons, List.append_assoc, bitTick_false hpulse, Nat.sub_self, Nat.zero_mul, Nat.add_zero]
      exact levelRuns_low_of_startsHigh (levelRuns_high hruns) (by simp [startsHigh])
    | true =>
      obtain ⟨n, ns, hgaps, hn, hruns⟩ := ih P.tickLen
      refine ⟨n + 1, ns, by simp [pulseGaps, hgaps], by omega, ?_⟩
      have hmul : P.tickLen + (n - 1) * P.tickLen = (n + 1 - 1) * P.tickLen := by
        rw [Nat.add_sub_cancel, Nat.add_comm, ← Nat.succ_mul, Nat.succ_eq_add_one, Nat.sub_add_cancel hn]
      rw [List.flatMap_cons, List.append_assoc, ← hmul]
      exact levelRuns_low_merge hruns

/-- The pairs a channel shows of a byte. -/
theorem levelRuns_byteEntries (v : Byte) (hes : levelRuns es = rs) (hrs : startsHigh rs) :
    levelRuns (byteEntries false P v ++ es) =
      pairRuns ((pulseGaps (byteBits v) P.dutyStopTicks.toNat).map (tickPair P)) ++ rs := by
  obtain ⟨n, ns, hgaps, hn, hruns⟩ := levelRuns_ticks hpulse (byteBits v) P.dutyStopTicks.toNat hes hrs
    (P.tickLen - P.dutyPulseSend)
  rw [rest_of_tick hpulse hn] at hruns
  rw [byteEntries_eq_bitTicks, pulseTick_eq hpulse, hgaps, List.append_assoc, List.append_assoc]
  exact levelRuns_high hruns

/-- The pairs of a byte: a pulse each, and the gap up to the next one. -/
def dutyPairs (P : Profile) (v : Byte) : List (Nat × Nat) :=
  (pulseGaps (byteBits v) P.dutyStopTicks.toNat).map (tickPair P)

theorem levelRuns_dutyEmission (bs : List Byte) :
    levelRuns (dutyEmission false P bs) = pairRuns (bs.flatMap (dutyPairs P)) := by
  rw [dutyEmission_eq_byteEntries]
  induction bs with
  | nil => rfl
  | cons v bs ih =>
    rw [List.flatMap_cons, levelRuns_byteEntries hpulse v ih (startsHigh_pairRuns _), List.flatMap_cons]
    simp [pairRuns, dutyPairs]

/-- What a channel shows of a duty emission (spec 45_modulator.md R195). -/
theorem channelView_dutyEmission (bs : List Byte) :
    channelView (dutyEmission false P bs) = pairDurations (bs.flatMap (dutyPairs P)) := by
  rw [channelView, levelRuns_dutyEmission hpulse, pairRuns_map_snd]

end

/- ### Decoding the pairs of a byte -/

section
variable {par : EngineParams} {P : Profile}

/-- A duty row whose bytes a receiver reads back: a rest after each pulse, and no gap within a packet is long (spec
42_duty_decoder.md R132). -/
structure DutyReadable (par : EngineParams) (P : Profile) : Prop where
  duty  : documentDuty par
  pulse : P.dutyPulseSend < P.tickLen
  gap   : (9 + P.dutyStopTicks.toNat) * P.tickLen ≤ par.longGap

variable (h : DutyReadable par P) {n : Nat} (hn : 1 ≤ n)
include h hn

/-- A pulse and its gap take their ticks exactly. -/
theorem quantize_tickPair : quantize par.quantTie ((tickPair P n).1 + (tickPair P n).2) P.tickLen = (n, 0) := by
  have hmul : P.tickLen ≤ n * P.tickLen := Nat.le_mul_of_pos_left _ hn
  have hpulse := h.pulse
  have hsum : (tickPair P n).1 + (tickPair P n).2 = n * P.tickLen := by
    rw [tickPair]
    omega
  rw [hsum, quantize_mul _ _ (by omega)]

theorem not_longPair_tickPair (hle : n ≤ 9 + P.dutyStopTicks.toNat) :
    ¬longPair par (tickPair P n).1 (tickPair P n).2 := by
  have hmul : n * P.tickLen ≤ (9 + P.dutyStopTicks.toNat) * P.tickLen := Nat.mul_le_mul_right _ hle
  have htick : P.tickLen ≤ n * P.tickLen := Nat.le_mul_of_pos_left _ hn
  have hpulse := h.pulse
  have hgap := h.gap
  rw [longPair, tickPair]
  omega

theorem shifts_tickPair (hle : n ≤ 9 + P.dutyStopTicks.toNat) : shifts par P (tickPair P n) n :=
  ⟨not_longPair_tickPair h hn hle, hn, 0, Nat.zero_le _, quantize_tickPair h hn⟩

end

/-- The pairs of a byte in its receiver's eyes: those that shift the bits up to the last 0, and the last one, which
completes the byte with ones. -/
theorem dutyPairs_spec {par : EngineParams} {P : Profile} (h : DutyReadable par P) (v : Byte) :
    ∃ (xs : List ((Nat × Nat) × Nat)) (m : Nat), dutyPairs P v = xs.map (·.1) ++ [tickPair P m] ∧
      (∀ x ∈ xs, shifts par P x.1 x.2) ∧ (xs.map (·.2)).sum ≤ 8 ∧ 9 ≤ (xs.map (·.2)).sum + m ∧ 1 ≤ m ∧
      m ≤ 9 + P.dutyStopTicks.toNat ∧ paddedBits (xs.map (·.2)) = byteBits v := by
  obtain ⟨ns, m, hgaps, hns, hm, hle, hsum, hbits⟩ := pulseGaps_spec (byteBits v) P.dutyStopTicks.toNat
  rw [byteBits_length] at hle hsum hbits
  have hsnd : (ns.map fun n => (tickPair P n, n)).map (·.2) = ns := (List.map_map ..).trans (List.map_id ns)
  refine ⟨ns.map fun n => (tickPair P n, n), m, by simp [dutyPairs, hgaps], ?_, by rwa [hsnd], by rw [hsnd]; omega,
    hm, by omega, ?_⟩
  · refine List.forall_mem_map.mpr fun n hn => ?_
    have hle' := List.le_sum_of_mem hn
    exact shifts_tickPair h (hns n hn) (by omega)
  · rw [hsnd]
    exact hbits

/-- The marks of a byte in diagram mode (spec 42_duty_decoder.md R131). -/
def byteMarks (v : Byte) : List TraceChar := .pulse :: bitMarks (byteBits v) ++ [.byteBoundary]

section
variable {par : EngineParams} {P : Profile} (h : DutyReadable par P) (on : Bool) {sym : List Symbol}
  {tr : List TraceChar} {cur : Nat} (hroom : sym.length < par.symMax)
include h hroom

/-- The pairs of a byte are decoded to it. -/
theorem dtDecode_dutyPairs (v : Byte) (ds : List Nat) :
    dtDecode par P on (pairDurations (dutyPairs P v) ++ ds) (dtBetween sym tr cur) =
      dtDecode par P on ds (dtBetween (sym ++ [.byte v]) (tr ++ marks on (byteMarks v))
        (cur + (pairDurations (dutyPairs P v)).length)) := by
  obtain ⟨xs, m, hpairs, hxs, hsum, hfull, hm, hle, hbits⟩ := dutyPairs_spec h v
  have hns : ∀ n ∈ xs.map (·.2), 1 ≤ n := List.forall_mem_map.mpr fun x hx => (hxs x hx).2.1
  have hsplit : pairDurations (dutyPairs P v) ++ ds =
      pairDurations (xs.map (·.1)) ++ ((tickPair P m).1 :: (tickPair P m).2 :: ds) := by
    simp [hpairs, pairDurations]
  have hlen : (pairDurations (dutyPairs P v)).length = 2 * xs.length + 2 := by
    simp [hpairs, pairDurations_length, Nat.mul_succ]
  rw [hsplit, dtDecode_dtBetween (by simp), dtDecode_shifts h.duty hxs (by simp) hsum, List.nil_append,
    dtDecode_pair_full ds hsum hns h.duty (not_longPair_tickPair h hm hle) (quantize_tickPair h hm) hfull hroom, hbits,
    bitsByte_byteBits, hlen, byteMarks, Nat.add_assoc]

/-- The last byte is decoded without its last gap too (spec 42_duty_decoder.md R128). -/
theorem dtDecode_dutyPairs_dropLast (v : Byte) :
    dtDecode par P on (pairDurations (dutyPairs P v)).dropLast (dtBetween sym tr cur) =
      .ok (dtBetween (sym ++ [.byte v]) (tr ++ marks on (byteMarks v))
        (cur + (pairDurations (dutyPairs P v)).dropLast.length)) := by
  obtain ⟨xs, m, hpairs, hxs, hsum, hfull, hm, hle, hbits⟩ := dutyPairs_spec h v
  have hns : ∀ n ∈ xs.map (·.2), 1 ≤ n := List.forall_mem_map.mpr fun x hx => (hxs x hx).2.1
  have hsplit : (pairDurations (dutyPairs P v)).dropLast = pairDurations (xs.map (·.1)) ++ [(tickPair P m).1] := by
    rw [hpairs, pairDurations, List.flatMap_append]
    exact (congrArg List.dropLast (List.append_assoc _ [(tickPair P m).1] [(tickPair P m).2]).symm).trans
      List.dropLast_concat
  have hlen : (pairDurations (dutyPairs P v)).dropLast.length = 2 * xs.length + 1 := by
    rw [hsplit, List.length_append, pairDurations_length, List.length_map, List.length_singleton]
  have hpulse : ¬par.longGap < (tickPair P m).1 := fun hlong => not_longPair_tickPair h hm hle (.inl hlong)
  rw [hlen, hsplit, dtDecode_dtBetween (by simp), dtDecode_shifts h.duty hxs (by simp) hsum, List.nil_append,
    dtDecode_last_pulse hsum hns hpulse hroom, hbits, bitsByte_byteBits, byteMarks, Nat.add_assoc]

end

section
variable {par : EngineParams} {P : Profile} (h : DutyReadable par P) (on : Bool) {sym : List Symbol}
  {tr : List TraceChar} {cur : Nat}
include h

/-- A packet's bytes, one after the other. -/
theorem dtDecode_packet (bs : List Byte) (ds : List Nat) (hroom : sym.length + bs.length ≤ par.symMax) :
    dtDecode par P on (pairDurations (bs.flatMap (dutyPairs P)) ++ ds) (dtBetween sym tr cur) =
      dtDecode par P on ds (dtBetween (sym ++ bs.map .byte) (tr ++ marks on (bs.flatMap byteMarks))
        (cur + (pairDurations (bs.flatMap (dutyPairs P))).length)) := by
  induction bs generalizing sym tr cur with
  | nil => cases on <;> simp [pairDurations, marks]
  | cons v bs ih =>
    rw [List.length_cons] at hroom
    have hsplit : pairDurations ((v :: bs).flatMap (dutyPairs P)) =
        pairDurations (dutyPairs P v) ++ pairDurations (bs.flatMap (dutyPairs P)) := by
      simp [pairDurations]
    rw [hsplit, List.append_assoc, dtDecode_dutyPairs h on (by omega), ih (by simp; omega), List.length_append,
      Nat.add_assoc, List.append_assoc, List.append_assoc, ← marks_append]
    rfl

/-- What a channel shows of an emission is decoded to its bytes, with or without the last idle time (spec
42_duty_decoder.md R132). -/
theorem dtDecode_channelView (bs : List Byte) (hroom : bs.length ≤ par.symMax) {cap : List Nat}
    (hcap : cap = channelView (dutyEmission false P bs) ∨ cap = (channelView (dutyEmission false P bs)).dropLast) :
    dtDecode par P on cap (dtBetween [] [] 0) =
      .ok (dtBetween (bs.map .byte) (marks on (bs.flatMap byteMarks)) cap.length) := by
  rw [channelView_dutyEmission h.pulse] at hcap
  have hwhole : dtDecode par P on (pairDurations (bs.flatMap (dutyPairs P))) (dtBetween [] [] 0) =
      .ok (dtBetween (bs.map .byte) (marks on (bs.flatMap byteMarks))
        (pairDurations (bs.flatMap (dutyPairs P))).length) := by
    have hpacket := dtDecode_packet h on (sym := []) (tr := []) (cur := 0) bs [] (by simpa using hroom)
    rw [List.append_nil, dtDecode_nil_closed rfl, Nat.zero_add] at hpacket
    exact hpacket
  rcases hcap with rfl | rfl
  · exact hwhole
  · induction bs using List.reverseRecOn with
    | nil => exact hwhole
    | append_singleton bs v =>
      have hne : pairDurations (dutyPairs P v) ≠ [] := by
        obtain ⟨xs, m, hpairs, -⟩ := dutyPairs_spec h v
        simp [hpairs, pairDurations]
      have hsplit : (pairDurations ((bs ++ [v]).flatMap (dutyPairs P))).dropLast =
          pairDurations (bs.flatMap (dutyPairs P)) ++ (pairDurations (dutyPairs P v)).dropLast := by
        have happend : pairDurations ((bs ++ [v]).flatMap (dutyPairs P)) =
            pairDurations (bs.flatMap (dutyPairs P)) ++ pairDurations (dutyPairs P v) := by
          simp [pairDurations]
        rw [happend, List.dropLast_append_of_ne_nil hne]
      rw [List.length_append, List.length_singleton] at hroom
      rw [hsplit, dtDecode_packet h on bs _ (by simp; omega), dtDecode_dutyPairs_dropLast h on (by simp; omega),
        List.length_append, Nat.zero_add, List.nil_append, List.nil_append, ← marks_append]
      simp

end

/-- Settles O27: the pairs a channel shows are decoded byte by byte. -/
theorem dutydecInvertsModduty : Obligations.DutydecInvertsModduty := by
  intro s P t h hdoc hpulse hgap hroom hfit
  have hread : DutyReadable s.par P := ⟨hdoc, hpulse, hgap⟩
  refine ⟨dutyEmission false P s.txb, ?_, fun cap hcap => ?_⟩
  · have hworst := Nat.mul_le_mul_left s.txb.length (dutyPerByte_le P)
    rw [exec_modduty_fits h (hworst.trans hfit), hdoc.2]
  · exact exec_dutydec_ok (s := { s with cap := cap }) h (dtDecode_channelView hread t s.txb hroom hcap)

end Sys2Proof.Machine
end

section
/-! Proofs of the statements of spec 43_framer.md section 3 about any list of symbols. First what one symbol can do to
the framer, then what every symbol keeps, then the end of the data, and R153 to R157 from them. -/

namespace Sys2Proof.Machine

/- ### What one symbol can do -/

/-- What a symbol can do to the framer's work, by the state it is in (spec 43_framer.md R140). -/
inductive FrmMove (par : EngineParams) (P : Profile) (x : Symbol) (w : FrmWork) : FrmRun → Prop
  /-- Outside a packet's payload only the state and the template index move. -/
  | outside (st : FrmState) (idx : BitVec 4) (hfrom : w.regs.st ≠ .inPayload) (hto : st ≠ .inPayload) :
      FrmMove par P x w (.ok { w with regs := { w.regs with st := st, idx := idx } })
  /-- The template is complete and a payload opens. -/
  | opens (idx : BitVec 4) (hfrom : w.regs.st ≠ .inPayload) :
      FrmMove par P x w
        (.ok { w with pay := [], regs := { w.regs with idx := idx, esc := false, bad := false, st := .inPayload } })
  | aborts (boundary : Bool) (hfrom : w.regs.st ≠ .inPayload) : FrmMove par P x w (.ok (abortPacket boundary w))
  /-- An escape byte waits for its code. -/
  | escapes (hfrom : w.regs.st = .inPayload) (hesc : w.regs.esc = false) :
      FrmMove par P x w (.ok { w with regs := { w.regs with esc := true } })
  /-- One more payload entry. -/
  | pushes (e : PayEntry) (bad : Bool) (hfrom : w.regs.st = .inPayload) (hroom : w.pay.length < par.payloadMax) :
      FrmMove par P x w
        (.ok { w with pay := w.pay ++ [e], regs := { w.regs with esc := false, bad := bad } })
  | closes (hfrom : w.regs.st = .inPayload) (hx : isBoundary P x = true) :
      FrmMove par P x w (.ok (closePacket par w))
  /-- A `LongGap` cuts an escape. -/
  | cuts (hfrom : w.regs.st = .inPayload) (hx : isBoundary P x = true) (hesc : w.regs.esc = true)
      (hroom : w.pay.length < par.payloadMax) :
      FrmMove par P x w
        (.ok (closePacket par
          { w with pay := w.pay ++ [.invalid], regs := { w.regs with esc := false, bad := true } }))
  /-- `PAY` is full. -/
  | overflows (hfrom : w.regs.st = .inPayload) (hfull : par.payloadMax ≤ w.pay.length) :
      FrmMove par P x w (.error (.payloadOverflow, { w with regs := { w.regs with esc := false } }))

section
variable {par : EngineParams} {P : Profile} {x : Symbol} {w : FrmWork}

theorem frmSeeking_move (hst : w.regs.st = .seeking) : FrmMove par P x w (.ok (frmSeeking P x w)) := by
  have hfrom : w.regs.st ≠ .inPayload := by simp [hst]
  rw [frmSeeking]
  split
  · exact .outside w.regs.st w.regs.idx hfrom hfrom
  · split
    · exact .outside .inStartSequence 1 hfrom (by simp)
    · exact .aborts _ hfrom

theorem frmMatching_move (hst : w.regs.st = .inStartSequence) : FrmMove par P x w (.ok (frmMatching P x w)) := by
  have hfrom : w.regs.st ≠ .inPayload := by simp [hst]
  rw [frmMatching]
  split
  · split
    · exact .opens _ hfrom
    · exact .outside w.regs.st (w.regs.idx + 1) hfrom hfrom
  · exact .aborts _ hfrom

theorem frmAborted_move (hst : w.regs.st = .aborted) : FrmMove par P x w (.ok (frmAborted P x w)) := by
  have hfrom : w.regs.st ≠ .inPayload := by simp [hst]
  rw [frmAborted]
  split
  · exact .outside .seeking w.regs.idx hfrom (by simp)
  · exact .outside w.regs.st w.regs.idx hfrom hfrom

/-- An entry, or a full `PAY`; an escape pending before it is no longer pending. -/
theorem payPush_move (hst : w.regs.st = .inPayload) (e : PayEntry) :
    FrmMove par P x w (payPush par.payloadMax e { w with regs := { w.regs with esc := false } }) := by
  rcases payPush_cases par.payloadMax e { w with regs := { w.regs with esc := false } } with
    ⟨hfull, hpush⟩ | ⟨hroom, hpush⟩
  · rw [hpush]
    exact .overflows hst hfull
  · rw [hpush]
    exact .pushes e w.regs.bad hst hroom

theorem payPushInvalid_cases (n : Nat) (w : FrmWork) :
    (n ≤ w.pay.length ∧ payPushInvalid n w = .error (.payloadOverflow, w)) ∨
    (w.pay.length < n ∧
      payPushInvalid n w = .ok { w with pay := w.pay ++ [.invalid], regs := { w.regs with bad := true } }) := by
  rcases payPush_cases n .invalid w with ⟨hfull, hpush⟩ | ⟨hroom, hpush⟩
  · exact .inl ⟨hfull, by rw [payPushInvalid, hpush]; rfl⟩
  · exact .inr ⟨hroom, by rw [payPushInvalid, hpush]; rfl⟩

theorem payPushInvalid_move (hst : w.regs.st = .inPayload) :
    FrmMove par P x w (payPushInvalid par.payloadMax { w with regs := { w.regs with esc := false } }) := by
  rcases payPushInvalid_cases par.payloadMax { w with regs := { w.regs with esc := false } } with
    ⟨hfull, hpush⟩ | ⟨hroom, hpush⟩
  · rw [hpush]
    exact .overflows hst hfull
  · rw [hpush]
    exact .pushes .invalid true hst hroom

theorem isBoundary_longGap (P : Profile) : isBoundary P .longGap = true := by simp [isBoundary]

theorem isBoundary_term (P : Profile) : isBoundary P (.byte P.term) = true := by simp [isBoundary]

theorem frmEscaped_move (hst : w.regs.st = .inPayload) (hesc : w.regs.esc = true) :
    FrmMove par P x w (frmEscaped par x { w with regs := { w.regs with esc := false } }) := by
  rw [frmEscaped]
  split
  · exact payPush_move hst _
  · split
    · exact payPush_move hst _
    · rcases payPushInvalid_cases par.payloadMax { w with regs := { w.regs with esc := false } } with
        ⟨hfull, hpush⟩ | ⟨hroom, hpush⟩
      · rw [hpush]
        exact .overflows hst hfull
      · rw [hpush, Except.map]
        split
        next hx => exact .cuts hst (hx ▸ isBoundary_longGap P) hesc hroom
        next => exact .pushes .invalid true hst hroom

theorem frmPlain_esc : frmPlain par P (.byte par.esc) w = .ok { w with regs := { w.regs with esc := true } } := by
  simp [frmPlain]

theorem frmPlain_longGap : frmPlain par P .longGap w = .ok (closePacket par w) := by simp [frmPlain]

theorem frmPlain_term (h : P.term ≠ par.esc) : frmPlain par P (.byte P.term) w = .ok (closePacket par w) := by
  simp [frmPlain, h]

theorem frmPlain_byte {v : Byte} (hesc : v ≠ par.esc) (hterm : v ≠ P.term) :
    frmPlain par P (.byte v) w = payPush par.payloadMax (.valid v) w := by
  simp [frmPlain, hesc, hterm]

theorem frmPlain_byteError : frmPlain par P .byteError w = payPushInvalid par.payloadMax w := by simp [frmPlain]

theorem frmPlain_move (hst : w.regs.st = .inPayload) (hesc : w.regs.esc = false) (hx : x ≠ .endMark) :
    FrmMove par P x w (frmPlain par P x w) := by
  have hw : { w with regs := { w.regs with esc := false } } = w := by rw [← hesc]
  cases x with
  | byte v =>
    by_cases hv : v = par.esc
    · rw [hv, frmPlain_esc]
      exact .escapes hst hesc
    · by_cases hterm : v = P.term
      · subst hterm
        rw [frmPlain_term hv]
        exact .closes hst (isBoundary_term P)
      · rw [frmPlain_byte hv hterm]
        have hpush := payPush_move (par := par) (P := P) (x := .byte v) hst (.valid v)
        rwa [hw] at hpush
  | byteError =>
    rw [frmPlain_byteError]
    have hpush := payPushInvalid_move (par := par) (P := P) (x := .byteError) hst
    rwa [hw] at hpush
  | longGap =>
    rw [frmPlain_longGap]
    exact .closes hst (isBoundary_longGap P)
  | endMark => exact absurd rfl hx

/-- What a symbol that is no `END` does is one of the moves. -/
theorem frmCase_move (hx : x ≠ .endMark) : FrmMove par P x w (frmCase par P x w) := by
  rw [frmCase]
  cases hst : w.regs.st with
  | seeking => exact frmSeeking_move hst
  | inStartSequence => exact frmMatching_move hst
  | aborted => exact frmAborted_move hst
  | inPayload =>
    show FrmMove par P x w (frmPayload par P x w)
    rw [frmPayload]
    cases hesc : w.regs.esc with
    | false => exact frmPlain_move hst hesc hx
    | true => exact frmEscaped_move hst hesc

end

/- ### What every symbol keeps -/

/-- Reports that `n` boundaries and the noise between them can give: no `END`, no noise that is last or before noise, at
most two a boundary (spec 43_framer.md R153). -/
structure ReportsLawful (n : Nat) (rep : List Report) : Prop where
  noEnd : ∀ r ∈ rep, r.kind ≠ .finish
  chain : rep.IsChain fun a b => ¬(isNoise a = true ∧ isNoise b = true)
  last  : ∀ r ∈ rep.getLast?, isNoise r = false
  count : rep.length ≤ 2 * n

theorem noiseReports_cases (run : BitVec 2) :
    noiseReports run = [] ∨ ∃ r, noiseReports run = [r] ∧ r.kind ≠ .finish := by
  unfold noiseReports
  split
  · exact .inr ⟨_, rfl, by simp⟩
  · split
    · exact .inr ⟨_, rfl, by simp⟩
    · exact .inl rfl

/-- Pending noise after lawful reports: at most one marker, and none before it. -/
theorem ReportsLawful.noise {n : Nat} {rep : List Report} (h : ReportsLawful n rep) (run : BitVec 2) :
    (∀ r ∈ rep ++ noiseReports run, r.kind ≠ .finish) ∧
      ((rep ++ noiseReports run).IsChain fun a b => ¬(isNoise a = true ∧ isNoise b = true)) ∧
      (rep ++ noiseReports run).length ≤ 2 * n + 1 := by
  obtain ⟨hend, hchain, hlast, hcount⟩ := h
  rcases noiseReports_cases run with hnone | ⟨r, hone, hr⟩
  · rw [hnone, List.append_nil]
    exact ⟨hend, hchain, by omega⟩
  · rw [hone]
    refine ⟨?_, ?_, by simpa using hcount⟩
    · simpa [or_imp, forall_and] using ⟨hend, hr⟩
    · refine hchain.append (List.isChain_singleton r) fun a ha b hb => ?_
      simp [hlast a ha]

theorem ReportsLawful.close {n : Nat} {rep : List Report} (h : ReportsLawful n rep) (run : BitVec 2) {r : Report}
    (hr : isPacketReport r = true) : ReportsLawful (n + 1) (rep ++ noiseReports run ++ [r]) := by
  obtain ⟨hend, hchain, hcount⟩ := h.noise run
  have hnoise : isNoise r = false := by
    revert hr
    unfold isNoise isPacketReport
    cases r.kind <;> simp
  have hfinish : r.kind ≠ .finish := by
    rintro heq
    simp [isPacketReport, heq] at hr
  refine ⟨?_, ?_, ?_, by rw [List.length_append, List.length_singleton]; omega⟩
  · intro r' hr'
    rcases List.mem_append.mp hr' with hr' | hr'
    · exact hend r' hr'
    · exact List.mem_singleton.mp hr' ▸ hfinish
  · refine hchain.append (List.isChain_singleton r) fun a _ b hb => ?_
    have hb : r = b := by simpa using hb
    simp [← hb, hnoise]
  · simp [hnoise]

theorem pairReport_isPacketReport (par : EngineParams) (data given : Half) (raw : List PayEntry) :
    isPacketReport (pairReport par data given raw) = true := by
  unfold pairReport
  split
  · rfl
  · split <;> rfl

theorem packetReport_isPacketReport (par : EngineParams) (pay : List PayEntry) (bad : Bool) :
    isPacketReport (packetReport par pay bad) = true := by
  unfold packetReport
  split
  · split
    · exact pairReport_isPacketReport ..
    · rfl
  · rfl

/-- The framer's work after the symbols `done`, a full `PAY` apart. -/
structure FrmKept (par : EngineParams) (P : Profile) (done : List Symbol) (w : FrmWork) : Prop where
  cur   : w.regs.cur = done.length
  calm  : w.regs.st ≠ .inPayload → w.regs.esc = false ∧ w.regs.bad = false
  run   : w.regs.abortRun.toNat ≤ 2
  mmPos : w.regs.mmPos ≤ done.length
  room  : w.pay.length ≤ par.payloadMax
  small : w.pay.length + w.regs.esc.toNat ≤ done.length
  rep   : ReportsLawful (done.filter (isBoundary P)).length w.rep

theorem frmKept_start (par : EngineParams) (P : Profile) : FrmKept par P [] ⟨.clear, [], []⟩ where
  cur := rfl
  calm _ := ⟨rfl, rfl⟩
  run := by decide
  mmPos := le_rfl
  room := Nat.zero_le _
  small := le_rfl
  rep := ⟨by simp, by simp, by simp, by simp⟩

theorem abortRunNext_le (r : BitVec 2) : (abortRunNext r).toNat ≤ 2 := by
  rw [abortRunNext, BitVec.toNat_ofNat]
  omega

theorem ReportsLawful.mono {n m : Nat} {rep : List Report} (h : ReportsLawful n rep) (hnm : n ≤ m) :
    ReportsLawful m rep := ⟨h.noEnd, h.chain, h.last, h.count.trans (Nat.mul_le_mul_left 2 hnm)⟩

section
variable {par : EngineParams} {P : Profile} {done : List Symbol} {x : Symbol} {w v : FrmWork}

theorem boundaries_le : (done.filter (isBoundary P)).length ≤ ((done ++ [x]).filter (isBoundary P)).length := by
  rw [List.filter_append, List.length_append]
  exact Nat.le_add_right ..

theorem boundaries_succ (hx : isBoundary P x = true) :
    ((done ++ [x]).filter (isBoundary P)).length = (done.filter (isBoundary P)).length + 1 := by
  simp [List.filter_append, hx]

/-- Closing a packet at a boundary. -/
theorem ReportsLawful.closePacket (h : ReportsLawful (done.filter (isBoundary P)).length w.rep)
    (hx : isBoundary P x = true) :
    ReportsLawful ((done ++ [x]).filter (isBoundary P)).length (closePacket par w).rep := by
  rw [boundaries_succ hx]
  exact h.close _ (packetReport_isPacketReport ..)

/-- The work after one more symbol that moved it. -/
theorem FrmKept.move (h : FrmKept par P done w) (hmove : FrmMove par P x w (.ok v)) :
    FrmKept par P (done ++ [x]) { v with regs := { v.regs with cur := v.regs.cur + 1 } } := by
  obtain ⟨hcur, hcalm, hrun, hmm, hroom, hsmall, hrep⟩ := h
  have hlen : (done ++ [x]).length = done.length + 1 := by simp
  cases hmove with
  | outside st idx hfrom hto =>
    exact ⟨by simp [hcur], fun _ => hcalm hfrom, hrun, by simp; omega, hroom, by simp; omega,
      hrep.mono boundaries_le⟩
  | opens idx hfrom =>
    exact ⟨by simp [hcur], by simp, hrun, by simp; omega, by simp, by simp, hrep.mono boundaries_le⟩
  | aborts boundary hfrom =>
    refine ⟨by simp [hcur], fun _ => hcalm hfrom, abortRunNext_le _, ?_, hroom, ?_, hrep.mono boundaries_le⟩
    · rw [hlen]
      show (if w.regs.mmValid then w.regs.mmPos else w.regs.cur) ≤ _
      split <;> omega
    · rw [hlen]
      exact hsmall.trans (Nat.le_succ _)
  | escapes hfrom hesc =>
    refine ⟨by simp [hcur], fun hto => absurd hfrom hto, hrun, by simp; omega, hroom, ?_, hrep.mono boundaries_le⟩
    rw [hesc] at hsmall
    simpa using hsmall
  | pushes e bad hfrom hpush =>
    refine ⟨by simp [hcur], fun hto => absurd hfrom hto, hrun, by simp; omega, by simpa using hpush, ?_,
      hrep.mono boundaries_le⟩
    simp
    omega
  | closes hfrom hx =>
    refine ⟨by simp [hcur], fun _ => ⟨rfl, rfl⟩, by simp, by simp; omega, hroom, ?_, hrep.closePacket hx⟩
    simp
    omega
  | cuts hfrom hx hesc hpush =>
    rw [hesc] at hsmall
    refine ⟨by simp [hcur], fun _ => ⟨rfl, rfl⟩, by simp, by simp; omega, by simpa using hpush, ?_,
      ReportsLawful.closePacket hrep hx⟩
    simp at hsmall ⊢
    omega

end

/- ### The end of the data -/

/-- The framer's work where it faulted, over `total` symbols. -/
structure FrmStopped (par : EngineParams) (total : Nat) (w : FrmWork) : Prop where
  cur   : w.regs.cur ≤ total
  run   : w.regs.abortRun.toNat ≤ 2
  mmPos : w.regs.mmPos ≤ total
  room  : w.pay.length ≤ par.payloadMax

/-- Why the framer faults: a stored `END`, or an entry for a full `PAY`, which takes more symbols than `PAY` holds. -/
def frmFaultOf (par : EngineParams) (ss : List Symbol) (c : FaultCause) : Prop :=
  (c = .badSymbol ∧ .endMark ∈ ss) ∨ (c = .payloadOverflow ∧ par.payloadMax < ss.length)

theorem FrmKept.stopped {par : EngineParams} {P : Profile} {done : List Symbol} {w : FrmWork} (h : FrmKept par P done w)
    {total : Nat} (htotal : done.length ≤ total) (esc : Bool) :
    FrmStopped par total { w with regs := { w.regs with esc := esc } } where
  cur := h.cur.le.trans htotal
  run := h.run
  mmPos := h.mmPos.trans htotal
  room := h.room

theorem frmSymbol_ok {par : EngineParams} {P : Profile} {x : Symbol} {w v : FrmWork} (hx : x ≠ .endMark)
    (h : frmCase par P x w = .ok v) :
    frmSymbol par P x w = .ok { v with regs := { v.regs with cur := v.regs.cur + 1 } } := by
  simp [frmSymbol, hx, h, Except.map]

theorem frmSymbol_endMark (par : EngineParams) (P : Profile) (w : FrmWork) :
    frmSymbol par P .endMark w = .error (.badSymbol, w) := if_pos rfl

/-- One symbol after the symbols `done`: the work goes on, or the framer faults at the symbol. -/
theorem FrmKept.symbol {par : EngineParams} {P : Profile} {done : List Symbol} {w : FrmWork} (h : FrmKept par P done w)
    (x : Symbol) :
    (∃ v, frmSymbol par P x w = .ok v ∧ FrmKept par P (done ++ [x]) v) ∨
    ∃ c v, frmSymbol par P x w = .error (c, v) ∧ FrmStopped par done.length v ∧
      (c = .badSymbol ∧ x = .endMark ∨ c = .payloadOverflow ∧ par.payloadMax ≤ done.length) := by
  rcases frmSymbol_cases par P x w with ⟨rfl, hs⟩ | ⟨hx, e, hcase, hs⟩ | ⟨hx, v, hcase, hs⟩
  · exact .inr ⟨_, _, hs, h.stopped le_rfl w.regs.esc, .inl ⟨rfl, rfl⟩⟩
  · have hmove := frmCase_move (par := par) (P := P) (w := w) hx
    rw [hcase] at hmove
    cases hmove with
    | overflows hfrom hfull =>
      have hsmall := h.small
      exact .inr ⟨_, _, hs, h.stopped le_rfl false, .inr ⟨rfl, by omega⟩⟩
  · have hmove := frmCase_move (par := par) (P := P) (w := w) hx
    rw [hcase] at hmove
    exact .inl ⟨_, hs, h.move hmove⟩

theorem FrmStopped.mono {par : EngineParams} {n m : Nat} {w : FrmWork} (h : FrmStopped par n w) (hnm : n ≤ m) :
    FrmStopped par m w := ⟨h.cur.trans hnm, h.run, h.mmPos.trans hnm, h.room⟩

/-- The loop over `ss` after the symbols `done`. -/
theorem FrmKept.loop {par : EngineParams} {P : Profile} (ss : List Symbol) {done : List Symbol} {w : FrmWork}
    (h : FrmKept par P done w) :
    (∃ v, frmLoop par P ss w = .ok v ∧ FrmKept par P (done ++ ss) v) ∨
    ∃ c v, frmLoop par P ss w = .error (c, v) ∧ FrmStopped par (done ++ ss).length v ∧
      frmFaultOf par (done ++ ss) c := by
  induction ss generalizing done w with
  | nil => exact .inl ⟨w, rfl, by simpa using h⟩
  | cons x ss ih =>
    have hlen : (done ++ x :: ss).length = done.length + 1 + ss.length := by simp; omega
    rcases h.symbol x with ⟨v, hs, hv⟩ | ⟨c, v, hs, hv, hc⟩
    · rw [frmLoop, hs, List.append_cons]
      exact ih hv
    · refine .inr ⟨c, v, by rw [frmLoop, hs], hv.mono (by omega), ?_⟩
      rcases hc with ⟨rfl, rfl⟩ | ⟨rfl, hfull⟩
      · exact .inl ⟨rfl, by simp⟩
      · exact .inr ⟨rfl, by omega⟩

section
variable {par : EngineParams} {w : FrmWork}

theorem frmAtEnd_seeking (hst : w.regs.st = .seeking) : frmAtEnd par w = .ok w := by simp [frmAtEnd, hst]

theorem frmAtEnd_aborted (hst : w.regs.st = .aborted) : frmAtEnd par w = .ok w := by simp [frmAtEnd, hst]

theorem frmAtEnd_inStartSequence (hst : w.regs.st = .inStartSequence) :
    frmAtEnd par w = .ok (abortPacket true w) := by simp [frmAtEnd, hst]

theorem frmAtEnd_inPayload (hst : w.regs.st = .inPayload) (hesc : w.regs.esc = false) :
    frmAtEnd par w = .ok (closePacket par w) := by simp [frmAtEnd, hst, hesc]

theorem frmAtEnd_escape (hst : w.regs.st = .inPayload) (hesc : w.regs.esc = true)
    (hroom : w.pay.length < par.payloadMax) :
    frmAtEnd par w = .ok (closePacket par
      { w with pay := w.pay ++ [.invalid], regs := { w.regs with esc := false, bad := true } }) := by
  rcases payPushInvalid_cases par.payloadMax { w with regs := { w.regs with esc := false } } with
    ⟨hfull, -⟩ | ⟨-, hpush⟩
  · exact absurd hfull (Nat.not_le.mpr hroom)
  · simp only [frmAtEnd, hst, hesc, if_true]
    rw [← hst, hpush]
    rfl

theorem frmAtEnd_full (hst : w.regs.st = .inPayload) (hesc : w.regs.esc = true)
    (hfull : par.payloadMax ≤ w.pay.length) :
    frmAtEnd par w = .error (.payloadOverflow, { w with regs := { w.regs with esc := false } }) := by
  rcases payPushInvalid_cases par.payloadMax { w with regs := { w.regs with esc := false } } with
    ⟨-, hpush⟩ | ⟨hroom, -⟩
  · simp only [frmAtEnd, hst, hesc, if_true]
    rw [← hst, hpush]
    rfl
  · exact absurd hfull (Nat.not_le.mpr hroom)

end

/-- What a run of the framer over `ss` leaves: its registers clear but for the cursor at the end and the first mismatch,
lawful reports before the one `END`. -/
structure FrmDone (par : EngineParams) (P : Profile) (ss : List Symbol) (w : FrmWork) : Prop where
  regs  : w.regs = ⟨.seeking, 0, ss.length, false, false, 0, w.regs.mmValid, w.regs.mmPos⟩
  mmPos : w.regs.mmPos ≤ ss.length
  room  : w.pay.length ≤ par.payloadMax
  rep   : ∃ rep, w.rep = rep ++ [endReport] ∧ (∀ r ∈ rep, r.kind ≠ .finish) ∧
    (rep.IsChain fun a b => ¬(isNoise a = true ∧ isNoise b = true)) ∧
    (rep ++ [endReport]).length ≤ 2 * ((ss.filter (isBoundary P)).length + 2)

/-- Flushing and the `END` report, on a work with its flags clear. -/
theorem frmFinish_done {par : EngineParams} {P : Profile} {ss : List Symbol} {w : FrmWork}
    (hcur : w.regs.cur = ss.length) (hcalm : w.regs.esc = false ∧ w.regs.bad = false) (hmm : w.regs.mmPos ≤ ss.length)
    (hroom : w.pay.length ≤ par.payloadMax) (hrep : ReportsLawful ((ss.filter (isBoundary P)).length + 1) w.rep) :
    FrmDone par P ss (frmFinish w) := by
  obtain ⟨hend, hchain, hcount⟩ := hrep.noise w.regs.abortRun
  refine ⟨?_, hmm, hroom, w.rep ++ noiseReports w.regs.abortRun, rfl, hend, hchain, ?_⟩
  · simp only [frmFinish, flushNoise_regs, hcur, hcalm]
  · rw [List.length_append, List.length_singleton]
    omega

/-- The end of the data after `ss`. -/
theorem FrmKept.finish {par : EngineParams} {P : Profile} {ss : List Symbol} {w : FrmWork} (h : FrmKept par P ss w) :
    (∃ v, (frmAtEnd par w).map frmFinish = .ok v ∧ FrmDone par P ss v) ∨
    ∃ v, (frmAtEnd par w).map frmFinish = .error (.payloadOverflow, v) ∧ FrmStopped par ss.length v ∧
      par.payloadMax < ss.length := by
  have hkept := h
  obtain ⟨hcur, hcalm, hrun, hmm, hroom, hsmall, hrep⟩ := h
  have hrep' := hrep.mono (Nat.le_succ _)
  cases hst : w.regs.st with
  | seeking =>
    rw [frmAtEnd_seeking hst]
    exact .inl ⟨_, rfl, frmFinish_done hcur (hcalm (by simp [hst])) hmm hroom hrep'⟩
  | aborted =>
    rw [frmAtEnd_aborted hst]
    exact .inl ⟨_, rfl, frmFinish_done hcur (hcalm (by simp [hst])) hmm hroom hrep'⟩
  | inStartSequence =>
    rw [frmAtEnd_inStartSequence hst]
    refine .inl ⟨_, rfl, frmFinish_done (w := abortPacket true w) hcur (hcalm (by simp [hst])) ?_ hroom hrep'⟩
    show (if w.regs.mmValid then w.regs.mmPos else w.regs.cur) ≤ _
    split <;> omega
  | inPayload =>
    cases hesc : w.regs.esc with
    | false =>
      rw [frmAtEnd_inPayload hst hesc]
      exact .inl ⟨_, rfl, frmFinish_done (w := closePacket par w) hcur ⟨rfl, rfl⟩ hmm hroom
        (hrep.close _ (packetReport_isPacketReport ..))⟩
    | true =>
      rw [hesc, Bool.toNat_true] at hsmall
      rcases lt_or_ge w.pay.length par.payloadMax with hlt | hfull
      · rw [frmAtEnd_escape hst hesc hlt]
        exact .inl ⟨_, rfl, frmFinish_done (w := closePacket par _) hcur ⟨rfl, rfl⟩ hmm (by simpa using hlt)
          (hrep.close _ (packetReport_isPacketReport ..))⟩
      · rw [frmAtEnd_full hst hesc hfull]
        exact .inr ⟨_, rfl, hkept.stopped le_rfl false, by omega⟩

/-- What `FRAME` leaves on any symbols. -/
theorem frmRun_leaves (par : EngineParams) (P : Profile) (ss : List Symbol) :
    (∃ w, frmRun par P ss = .ok w ∧ FrmDone par P ss w) ∨
    ∃ c w, frmRun par P ss = .error (c, w) ∧ FrmStopped par ss.length w ∧ frmFaultOf par ss c := by
  rcases (frmKept_start par P).loop ss with ⟨v, hloop, hv⟩ | ⟨c, v, hloop, hv, hc⟩
  · rw [frmRun, hloop]
    rcases hv.finish with hdone | ⟨w, hw, hstopped, hfull⟩
    · exact .inl hdone
    · exact .inr ⟨_, w, hw, hstopped, .inr ⟨rfl, hfull⟩⟩
  · rw [frmRun, hloop]
    exact .inr ⟨c, v, rfl, hv, hc⟩

/-- Few symbols and no stored `END`: no fault. -/
theorem frmRun_ok {par : EngineParams} {ss : List Symbol} (P : Profile) (hlen : ss.length ≤ par.payloadMax)
    (hend : .endMark ∉ ss) : ∃ w, frmRun par P ss = .ok w ∧ FrmDone par P ss w := by
  rcases frmRun_leaves par P ss with hdone | ⟨c, w, -, -, ⟨-, hmem⟩ | ⟨-, hfull⟩⟩
  · exact hdone
  · exact absurd hmem hend
  · omega

/- ### `FRAME` on any symbols -/

section
variable {s : State} {P : Profile} {w : FrmWork}

theorem exec_frame_ok (h : hasProfile .duty s P) (hrun : frmRun s.par P s.sym = .ok w) :
    exec .frame s = .next { s with frm := w.regs, pay := w.pay, rep := w.rep } := by
  rw [exec_frame, withKind_toOutcome_of_hasProfile _ h, frameCore, hrun]
  rfl

theorem exec_frame_error {c : FaultCause} (h : hasProfile .duty s P) (hrun : frmRun s.par P s.sym = .error (c, w)) :
    exec .frame s =
      .next { s with frm := w.regs, pay := w.pay, rep := w.rep, fault := ⟨true, faultCode c⟩ } := by
  rw [exec_frame, withKind_toOutcome_of_hasProfile _ h, frameCore, hrun]
  rfl

end

/-- Settles O32: what a run without a fault leaves. -/
theorem frameFinalValues : Obligations.FrameFinalValues := by
  intro s P h hlen hend
  obtain ⟨w, hrun, hregs, hmm, -, rep, hrep, hfinish, hchain, hcount⟩ := frmRun_ok P hlen hend
  refine ⟨w.regs.mmValid, w.regs.mmPos, w.pay, rep, ?_, hfinish, fun i a b ha hb => ?_, hcount, hmm⟩
  · rw [exec_frame_ok h hrun, ← hregs, ← hrep]
  · obtain ⟨hi, rfl⟩ := List.getElem?_eq_some_iff.mp ha
    obtain ⟨hi', rfl⟩ := List.getElem?_eq_some_iff.mp hb
    exact List.isChain_iff_getElem.mp hchain i hi'

end Sys2Proof.Machine
end

section
/-! Proofs of the statements of spec 43_framer.md sections 2 and 3 about packets. First the parts of a packet one after
the other, what is passed over, the template, the pieces and the end, then the report, then R150 to R155 from them. -/

namespace Sys2Proof.Machine

/- ### What stands before a packet -/

/-- The cursor `n` symbols on. -/
def frmAdvance (n : Nat) (w : FrmWork) : FrmWork := { w with regs := { w.regs with cur := w.regs.cur + n } }

@[simp] theorem frmAdvance_zero (w : FrmWork) : frmAdvance 0 w = w := rfl

theorem frmAdvance_frmAdvance (m n : Nat) (w : FrmWork) : frmAdvance n (frmAdvance m w) = frmAdvance (m + n) w := by
  simp [frmAdvance, Nat.add_assoc]

section
variable {par : EngineParams} {P : Profile} {x : Symbol} {xs ys : List Symbol} {w v : FrmWork}

theorem frmLoop_append_ok (h : frmLoop par P xs w = .ok v) : frmLoop par P (xs ++ ys) w = frmLoop par P ys v := by
  rw [frmLoop_append, h]
  rfl

theorem frmLoop_cons_ok (hx : x ≠ .endMark) (h : frmCase par P x w = .ok v) :
    frmLoop par P (x :: xs) w = frmLoop par P xs (frmAdvance 1 v) := by
  rw [frmLoop, frmSymbol_ok hx h]
  rfl

theorem frmCase_seeking (hst : w.regs.st = .seeking) : frmCase par P x w = .ok (frmSeeking P x w) := by
  simp [frmCase, hst]

theorem frmCase_inStartSequence (hst : w.regs.st = .inStartSequence) :
    frmCase par P x w = .ok (frmMatching P x w) := by simp [frmCase, hst]

theorem frmCase_aborted (hst : w.regs.st = .aborted) : frmCase par P x w = .ok (frmAborted P x w) := by
  simp [frmCase, hst]

theorem frmCase_plain (hst : w.regs.st = .inPayload) (hesc : w.regs.esc = false) :
    frmCase par P x w = frmPlain par P x w := by simp [frmCase, frmPayload, hst, hesc]

theorem frmCase_escaped (hst : w.regs.st = .inPayload) (hesc : w.regs.esc = true) :
    frmCase par P x w = frmEscaped par x { w with regs := { w.regs with esc := false } } := by
  simp [frmCase, frmPayload, hst, hesc]

theorem isSkipped_iff : isSkipped P x = true ↔ passedOver P x := by
  cases x <;> simp [isSkipped, passedOver]

theorem passedOver_ne_endMark (h : passedOver P x) : x ≠ .endMark := by
  rcases h with rfl | ⟨v, -, rfl⟩ <;> simp

/-- `LongGap`s and trailer bytes before a template change nothing (spec 43_framer.md R141). -/
theorem frmLoop_passedOver (hst : w.regs.st = .seeking) (hys : ∀ y ∈ ys, passedOver P y) :
    frmLoop par P ys w = .ok (frmAdvance ys.length w) := by
  induction ys generalizing w with
  | nil => rfl
  | cons y ys ih =>
    obtain ⟨hy, hys⟩ := List.forall_mem_cons.mp hys
    have hskip : frmSeeking P y w = w := if_pos (isSkipped_iff.mpr hy)
    have hcase : frmCase par P y w = .ok w := (frmCase_seeking hst).trans (congrArg _ hskip)
    rw [frmLoop_cons_ok (passedOver_ne_endMark hy) hcase, ih (w := frmAdvance 1 w) hst hys, frmAdvance_frmAdvance,
      List.length_cons, Nat.add_comm 1]

theorem matchesTemplate_longGap (P : Profile) (i : Nat) : matchesTemplate P i .longGap = false := by
  unfold matchesTemplate
  split <;> rfl

/-- Whatever the framer is in, a `LongGap` that is no fault leaves it seeking. -/
theorem frmCase_longGap_seeking (h : frmCase par P .longGap w = .ok v) : v.regs.st = .seeking := by
  cases hst : w.regs.st with
  | seeking =>
    rw [frmCase_seeking hst, frmSeeking, if_pos (show isSkipped P .longGap = true from rfl)] at h
    cases h
    exact hst
  | inStartSequence =>
    rw [frmCase_inStartSequence hst, frmMatching, matchesTemplate_longGap, if_neg Bool.false_ne_true,
      isBoundary_longGap] at h
    cases h
    rfl
  | aborted =>
    rw [frmCase_aborted hst, frmAborted, if_pos (.inl rfl)] at h
    cases h
    rfl
  | inPayload =>
    cases hesc : w.regs.esc with
    | false =>
      rw [frmCase_plain hst hesc, frmPlain_longGap] at h
      cases h
      rfl
    | true =>
      rw [frmCase_escaped hst hesc, frmEscaped, if_neg (by simp), if_neg (by simp)] at h
      rcases payPushInvalid_cases par.payloadMax { w with regs := { w.regs with esc := false } } with
        ⟨-, hpush⟩ | ⟨-, hpush⟩
      · rw [hpush] at h
        cases h
      · rw [hpush] at h
        cases h
        rfl

/-- After nothing, or after symbols that a `LongGap` closed, the framer is seeking. -/
theorem frmLoop_closedLead {lead : List Symbol} (h : closedLead par lead) :
    ∃ v, frmLoop par P lead ⟨.clear, [], []⟩ = .ok v ∧ v.regs.st = .seeking ∧ FrmKept par P lead v ∧
      frmRun par P lead = .ok (frmFinish v) := by
  obtain ⟨hclosed, hend, hlen⟩ := h
  rcases (frmKept_start par P).loop lead with ⟨v, hloop, hv⟩ | ⟨c, v, -, -, ⟨-, hmem⟩ | ⟨-, hfull⟩⟩
  · have hst : v.regs.st = .seeking := by
      rcases hclosed with rfl | hlast
      · cases hloop
        rfl
      · obtain ⟨ys, rfl⟩ := List.getLast?_eq_some_iff.mp hlast
        rw [frmLoop_append] at hloop
        cases hys : frmLoop par P ys ⟨.clear, [], []⟩ with
        | error e => rw [hys] at hloop; cases hloop
        | ok u =>
          rw [hys] at hloop
          change frmLoop par P [.longGap] u = .ok v at hloop
          cases hcase : frmCase par P .longGap u with
          | error e => simp [frmLoop, frmSymbol, hcase, Except.map] at hloop
          | ok x =>
            rw [frmLoop_cons_ok (by simp) hcase] at hloop
            cases hloop
            have hx := frmCase_longGap_seeking hcase
            exact hx
    refine ⟨v, hloop, hst, by simpa using hv, ?_⟩
    rw [frmRun, hloop]
    show (frmAtEnd par v).map frmFinish = _
    rw [frmAtEnd_seeking hst]
    rfl
  · exact absurd hmem hend
  · exact absurd hfull (Nat.not_lt.mpr hlen)

end

/- ### The template -/

theorem startSeq_getElem_matches {P : Profile} {k : Nat} (hk : k < P.startSeq.length) :
    matchesTemplate P k (.byte P.startSeq[k]) = true := by
  simp [matchesTemplate, List.getElem?_eq_getElem hk]

/-- The work in a start sequence, `k` template bytes after `w`. -/
def frmInTemplate (k : Nat) (w : FrmWork) : FrmWork :=
  { w with regs := { w.regs with st := .inStartSequence, idx := BitVec.ofNat 4 k, cur := w.regs.cur + k } }

/-- The work in the payload of a packet after `w`, with the entries `es` and the cursor at `cur`. -/
def frmInPacket (P : Profile) (es : List PayEntry) (cur : Nat) (w : FrmWork) : FrmWork :=
  { w with
    pay := es
    regs :=
      { w.regs with
        st := .inPayload, idx := BitVec.ofNat 4 P.startSeq.length, cur := cur, esc := false
        bad := decide (.invalid ∈ es) } }

section
variable {par : EngineParams} {P : Profile} (hP : framingConditions P = true) {w : FrmWork}
include hP

theorem startSeq_length : 11 ≤ P.startSeq.length ∧ P.startSeq.length ≤ 14 := by
  simp only [framingConditions, Bool.and_eq_true, decide_eq_true_eq] at hP
  obtain ⟨⟨⟨hmin, hmax⟩, -⟩, -⟩ := hP
  exact ⟨hmin, hmax⟩

theorem startSeq_head_not_trailer {v : Byte} (hv : P.startSeq[0]? = some v) : v ∉ P.trailer := by
  simp only [framingConditions, Bool.and_eq_true] at hP
  obtain ⟨-, hhead⟩ := hP
  cases hseq : P.startSeq with
  | nil => simp [hseq] at hv
  | cons v' vs =>
    rw [hseq] at hhead hv
    simp at hhead hv
    exact hv ▸ hhead

/-- The next template byte, in a start sequence (spec 43_framer.md R142). -/
theorem frmMatching_next {k : Nat} (hk : k + 1 < P.startSeq.length) :
    frmMatching P (.byte (P.startSeq[k]'(by omega))) (frmInTemplate k w) =
      { frmInTemplate k w with regs := { (frmInTemplate k w).regs with idx := BitVec.ofNat 4 (k + 1) } } := by
  have hlen := startSeq_length hP
  have hidx : (frmInTemplate k w).regs.idx.toNat = k := by
    show (BitVec.ofNat 4 k).toNat = k
    rw [BitVec.toNat_ofNat]
    omega
  rw [frmMatching, hidx, if_pos (startSeq_getElem_matches (by omega)), if_neg (by omega)]
  show ({ frmInTemplate k w with
    regs := { (frmInTemplate k w).regs with idx := BitVec.ofNat 4 k + 1#4 } } : FrmWork) = _
  rw [← BitVec.ofNat_add]

/-- The first `k` template bytes in `Seeking` (spec 43_framer.md R141, R142). -/
theorem frmLoop_template (hst : w.regs.st = .seeking) {k : Nat} (hk : 1 ≤ k) (hlt : k < P.startSeq.length) :
    frmLoop par P ((P.startSeq.take k).map .byte) w = .ok (frmInTemplate k w) := by
  induction k, hk using Nat.le_induction with
  | base =>
    have hhead : (P.startSeq.take 1).map Symbol.byte = [.byte P.startSeq[0]] := by
      rw [List.take_one, List.head?_eq_getElem?, List.getElem?_eq_getElem (by omega)]
      rfl
    have hskip : isSkipped P (.byte P.startSeq[0]) = false := by
      simpa [isSkipped] using startSeq_head_not_trailer hP (List.getElem?_eq_getElem (by omega))
    have hcase : frmCase par P (.byte P.startSeq[0]) w =
        .ok { w with regs := { w.regs with idx := 1, st := .inStartSequence } } := by
      rw [frmCase_seeking hst, frmSeeking, hskip, if_neg Bool.false_ne_true,
        if_pos (startSeq_getElem_matches (by omega))]
    rw [hhead, frmLoop_cons_ok (by simp) hcase]
    rfl
  | succ k hk ih =>
    have hcase : frmCase par P (.byte P.startSeq[k]) (frmInTemplate k w) = .ok _ :=
      (frmCase_inStartSequence rfl).trans (congrArg _ (frmMatching_next hP hlt))
    rw [List.take_succ_eq_append_getElem (by omega), List.map_append, frmLoop_append_ok (ih (by omega)),
      List.map_singleton, frmLoop_cons_ok (by simp) hcase]
    rfl

/-- The last template byte opens the payload (spec 43_framer.md R144). -/
theorem frmMatching_last {k : Nat} (hk : k + 1 = P.startSeq.length) :
    frmMatching P (.byte (P.startSeq[k]'(by omega))) (frmInTemplate k w) = frmInPacket P [] (w.regs.cur + k) w := by
  have hlen := startSeq_length hP
  have hidx : (frmInTemplate k w).regs.idx.toNat = k := by
    show (BitVec.ofNat 4 k).toNat = k
    rw [BitVec.toNat_ofNat]
    omega
  rw [frmMatching, hidx, if_pos (startSeq_getElem_matches (by omega)), if_pos hk, frmInPacket, ← hk,
    BitVec.ofNat_add]
  rfl

/-- The whole template in `Seeking` (spec 43_framer.md R144). -/
theorem frmLoop_startSeq (hst : w.regs.st = .seeking) :
    frmLoop par P (P.startSeq.map .byte) w = .ok (frmInPacket P [] (w.regs.cur + P.startSeq.length) w) := by
  obtain ⟨hmin, -⟩ := startSeq_length hP
  obtain ⟨k, hk⟩ : ∃ k, k + 1 = P.startSeq.length := ⟨P.startSeq.length - 1, by omega⟩
  have hsplit : P.startSeq = P.startSeq.take k ++ [P.startSeq[k]] := by
    rw [← List.take_succ_eq_append_getElem, hk, List.take_length]
  have hcase : frmCase par P (.byte P.startSeq[k]) (frmInTemplate k w) = .ok _ :=
    (frmCase_inStartSequence rfl).trans (congrArg _ (frmMatching_last hP hk))
  calc frmLoop par P (P.startSeq.map .byte) w
      = frmLoop par P ((P.startSeq.take k).map .byte ++ [.byte P.startSeq[k]]) w := by
        conv_lhs => rw [hsplit, List.map_append, List.map_singleton]
    _ = .ok (frmInPacket P [] (w.regs.cur + k + 1) w) := by
        rw [frmLoop_append_ok (frmLoop_template hP hst (by omega) (by omega)), frmLoop_cons_ok (by simp) hcase]
        rfl
    _ = _ := by rw [← hk, Nat.add_assoc]

end

/- ### The pieces of a payload -/

/-- One more entry for the payload `es`, or `PAY` is full. -/
def frmPush (par : EngineParams) (P : Profile) (e : PayEntry) (es : List PayEntry) (cur : Nat) (w : FrmWork) : FrmRun :=
  if par.payloadMax ≤ es.length then .error (.payloadOverflow, frmInPacket P es cur w)
  else .ok (frmInPacket P (es ++ [e]) cur w)

/-- An escape byte waits for its code in the packet `frmInPacket` describes. -/
def frmEscaping (P : Profile) (es : List PayEntry) (cur : Nat) (w : FrmWork) : FrmWork :=
  { frmInPacket P es cur w with regs := { (frmInPacket P es cur w).regs with esc := true } }

section
variable {par : EngineParams} {P : Profile} {w : FrmWork} {es : List PayEntry} {cur : Nat}

theorem frmLoop_singleton {x : Symbol} (hx : x ≠ .endMark) :
    frmLoop par P [x] w = (frmCase par P x w).map (frmAdvance 1) := by
  cases h : frmCase par P x w with
  | error e => simp [frmLoop, frmSymbol, hx, h, Except.map]
  | ok v => exact frmLoop_cons_ok hx h

theorem payPush_frmInPacket (v : Byte) :
    payPush par.payloadMax (.valid v) (frmInPacket P es cur w) = frmPush par P (.valid v) es cur w := by
  rcases payPush_cases par.payloadMax (.valid v) (frmInPacket P es cur w) with ⟨hfull, hpush⟩ | ⟨hroom, hpush⟩
  · rw [hpush, frmPush, if_pos (show par.payloadMax ≤ es.length from hfull)]
  · rw [hpush, frmPush, if_neg (Nat.not_le.mpr (show es.length < par.payloadMax from hroom))]
    simp [frmInPacket]

theorem payPushInvalid_frmInPacket :
    payPushInvalid par.payloadMax (frmInPacket P es cur w) = frmPush par P .invalid es cur w := by
  rcases payPushInvalid_cases par.payloadMax (frmInPacket P es cur w) with ⟨hfull, hpush⟩ | ⟨hroom, hpush⟩
  · rw [hpush, frmPush, if_pos (show par.payloadMax ≤ es.length from hfull)]
  · rw [hpush, frmPush, if_neg (Nat.not_le.mpr (show es.length < par.payloadMax from hroom))]
    simp [frmInPacket]

theorem frmLoop_esc (xs : List Symbol) :
    frmLoop par P (.byte par.esc :: xs) (frmInPacket P es cur w) = frmLoop par P xs (frmEscaping P es (cur + 1) w) :=
  frmLoop_cons_ok (by simp) ((frmCase_plain rfl rfl).trans frmPlain_esc)

theorem frmCase_frmEscaping (x : Symbol) :
    frmCase par P x (frmEscaping P es cur w) = frmEscaped par x (frmInPacket P es cur w) :=
  frmCase_escaped rfl rfl

theorem frmLoop_escape {x : Symbol} (hx : x ≠ .endMark) :
    frmLoop par P [.byte par.esc, x] (frmInPacket P es cur w) =
      (frmEscaped par x (frmInPacket P es (cur + 1) w)).map (frmAdvance 1) := by
  rw [frmLoop_esc, frmLoop_singleton hx, frmCase_frmEscaping]

/-- What a piece's symbols do to the payload (spec 43_framer.md R145, R148, R149). -/
theorem frmLoop_piece (hpar : documentFraming par) {q : PayPiece} (hq : pieceLawful par P q) :
    frmLoop par P (pieceSymbols par q) (frmInPacket P es cur w) =
      (frmPush par P (pieceEntry par q) es (cur + (pieceSymbols par q).length - 1) w).map (frmAdvance 1) := by
  obtain ⟨-, hcode0, -, hcode1, -, -⟩ := hpar
  cases q with
  | plain v =>
    obtain ⟨hesc, hterm⟩ := hq
    exact (frmLoop_singleton (by simp)).trans (congrArg _
      ((frmCase_plain rfl rfl).trans ((frmPlain_byte hesc hterm).trans (payPush_frmInPacket v))))
  | damaged =>
    exact (frmLoop_singleton (by simp)).trans (congrArg _
      ((frmCase_plain rfl rfl).trans (frmPlain_byteError.trans payPushInvalid_frmInPacket)))
  | escaped0 =>
    refine (frmLoop_escape (by simp)).trans (congrArg _ ?_)
    rw [frmEscaped, if_pos rfl]
    exact payPush_frmInPacket _
  | escaped1 =>
    refine (frmLoop_escape (by simp)).trans (congrArg _ ?_)
    rw [frmEscaped, if_neg (by simp [hcode0, hcode1]), if_pos rfl]
    exact payPush_frmInPacket _
  | badEscape x =>
    obtain ⟨h0, h1, hgap, hend⟩ := hq
    refine (frmLoop_escape hend).trans (congrArg _ ?_)
    rw [frmEscaped, if_neg h0, if_neg h1, payPushInvalid_frmInPacket]
    simp only [if_neg hgap]
    exact congrFun Except.map_id _

theorem pieceSymbols_length_pos (par : EngineParams) (q : PayPiece) : 1 ≤ (pieceSymbols par q).length := by
  cases q <;> simp [pieceSymbols]

theorem frmPush_room {e : PayEntry} (hroom : es.length < par.payloadMax) :
    frmPush par P e es cur w = .ok (frmInPacket P (es ++ [e]) cur w) := if_neg (Nat.not_le.mpr hroom)

theorem frmPush_full {e : PayEntry} (hfull : par.payloadMax ≤ es.length) :
    frmPush par P e es cur w = .error (.payloadOverflow, frmInPacket P es cur w) := if_pos hfull

theorem frmAdvance_frmInPacket (n : Nat) : frmAdvance n (frmInPacket P es cur w) = frmInPacket P es (cur + n) w := rfl

/-- Pieces that fit give their entries (spec 43_framer.md R145 to R149). -/
theorem frmLoop_pieces (hpar : documentFraming par) {ps : List PayPiece} (hps : ∀ p ∈ ps, pieceLawful par P p)
    (hroom : es.length + ps.length ≤ par.payloadMax) :
    frmLoop par P (ps.flatMap (pieceSymbols par)) (frmInPacket P es cur w) =
      .ok (frmInPacket P (es ++ ps.map (pieceEntry par)) (cur + (ps.flatMap (pieceSymbols par)).length) w) := by
  induction ps generalizing es cur with
  | nil => simp [frmLoop]
  | cons p ps ih =>
    obtain ⟨hp, hps⟩ := List.forall_mem_cons.mp hps
    rw [List.length_cons] at hroom
    have hone := pieceSymbols_length_pos par p
    have hpiece : frmLoop par P (pieceSymbols par p) (frmInPacket P es cur w) =
        .ok (frmInPacket P (es ++ [pieceEntry par p]) (cur + (pieceSymbols par p).length) w) := by
      rw [frmLoop_piece hpar hp, frmPush_room (by omega)]
      show Except.ok (frmAdvance 1 _) = _
      rw [frmAdvance_frmInPacket, show ∀ m n : Nat, 1 ≤ n → m + n - 1 + 1 = m + n by omega]
      exact hone
    rw [List.flatMap_cons, frmLoop_append_ok hpiece, ih hps (by simp; omega), List.length_append, Nat.add_assoc,
      List.map_cons, List.append_assoc, List.singleton_append]

end

/- ### The end of a packet and of the data -/

/-- The framer on the symbols that are left, and the end of the data after them. -/
def frmRest (par : EngineParams) (P : Profile) (ss : List Symbol) (w : FrmWork) : FrmRun :=
  match frmLoop par P ss w with
  | .error e => .error e
  | .ok v => (frmAtEnd par v).map frmFinish

/-- What the framer's run ends with when a packet with the payload `es`, opened after `w`, was the last one. -/
def frmClosed (par : EngineParams) (es : List PayEntry) (total : Nat) (w : FrmWork) : FrmWork where
  regs := ⟨.seeking, 0, total, false, false, 0, w.regs.mmValid, w.regs.mmPos⟩
  pay := es
  rep := w.rep ++ noiseReports w.regs.abortRun ++ [packetReport par es (decide (.invalid ∈ es)), endReport]

section
variable {par : EngineParams} {P : Profile} {w v : FrmWork} {xs ys : List Symbol} {es : List PayEntry} {cur : Nat}

theorem frmRun_eq_frmRest (par : EngineParams) (P : Profile) (ss : List Symbol) :
    frmRun par P ss = frmRest par P ss ⟨.clear, [], []⟩ := rfl

theorem frmRest_ok (h : frmLoop par P xs w = .ok v) : frmRest par P xs w = (frmAtEnd par v).map frmFinish := by
  rw [frmRest, h]

theorem frmRest_append_ok (h : frmLoop par P xs w = .ok v) : frmRest par P (xs ++ ys) w = frmRest par P ys v := by
  rw [frmRest, frmLoop_append_ok h]
  rfl

theorem frmRest_append_error {e : FaultCause × FrmWork} (h : frmLoop par P xs w = .error e) :
    frmRest par P (xs ++ ys) w = .error e := by
  rw [frmRest, frmLoop_append, h]
  rfl

theorem frmFinish_closePacket :
    frmFinish (frmAdvance 1 (closePacket par (frmInPacket P es cur w))) = frmClosed par es (cur + 1) w := by
  simp [frmFinish, frmAdvance, frmClosed, frmInPacket, noiseReports, endReport]

theorem frmFinish_closePacket_dataEnd :
    frmFinish (closePacket par (frmInPacket P es cur w)) = frmClosed par es cur w := by
  simp [frmFinish, frmClosed, frmInPacket, noiseReports, endReport]

theorem frmEscaped_longGap (hpush : frmPush par P .invalid es cur w = .ok v) :
    frmEscaped par .longGap (frmInPacket P es cur w) = .ok (closePacket par v) := by
  rw [frmEscaped, if_neg (by simp), if_neg (by simp), payPushInvalid_frmInPacket, hpush]
  rfl

theorem frmAtEnd_frmEscaping :
    frmAtEnd par (frmEscaping P es cur w) = (frmPush par P .invalid es cur w).map (closePacket par) := by
  rw [← payPushInvalid_frmInPacket]
  rfl

/-- A boundary in the payload closes the packet, and it was the last one. -/
theorem frmRest_boundary {x : Symbol} (hx : x ≠ .endMark)
    (hcase : frmCase par P x w = .ok (closePacket par (frmInPacket P es cur v))) :
    frmRest par P [x] w = .ok (frmClosed par es (cur + 1) v) := by
  have hloop : frmLoop par P [x] w = _ := frmLoop_cons_ok hx hcase
  rw [frmRest_ok hloop, frmAtEnd_seeking rfl]
  exact congrArg _ frmFinish_closePacket

/-- How a packet that is the last one ends (spec 43_framer.md R146, R152, R154). -/
theorem frmRest_endSymbols (hterm : P.term ≠ par.esc) (fin : PacketEnd)
    (hroom : (es ++ endEntries fin).length ≤ par.payloadMax) :
    frmRest par P (endSymbols par P fin) (frmInPacket P es cur w) =
      .ok (frmClosed par (es ++ endEntries fin) (cur + (endSymbols par P fin).length) w) := by
  cases fin with
  | terminator =>
    rw [endEntries, List.append_nil]
    exact frmRest_boundary (by simp) ((frmCase_plain rfl rfl).trans (frmPlain_term hterm))
  | longGap =>
    rw [endEntries, List.append_nil]
    exact frmRest_boundary (by simp) ((frmCase_plain rfl rfl).trans frmPlain_longGap)
  | dataEnd =>
    rw [endEntries, List.append_nil, endSymbols, frmRest_ok rfl, frmAtEnd_inPayload rfl rfl]
    exact congrArg _ frmFinish_closePacket_dataEnd
  | escapeLongGap =>
    have hesc : frmLoop par P [.byte par.esc] (frmInPacket P es cur w) = .ok (frmEscaping P es (cur + 1) w) :=
      frmLoop_esc []
    have hpush : frmPush par P .invalid es (cur + 1) w = .ok _ := frmPush_room (by simpa [endEntries] using hroom)
    exact (frmRest_append_ok hesc).trans
      (frmRest_boundary (by simp) ((frmCase_frmEscaping _).trans (frmEscaped_longGap hpush)))
  | escapeDataEnd =>
    have hpush : frmPush par P .invalid es (cur + 1) w = .ok _ := frmPush_room (by simpa [endEntries] using hroom)
    rw [endSymbols, frmRest_ok (frmLoop_esc []), frmAtEnd_frmEscaping, hpush]
    exact congrArg _ frmFinish_closePacket_dataEnd

/-- One entry more than `PAY` holds is a fault at the symbol that asks for it (spec 43_framer.md R155). -/
theorem frmRest_overflow (hpar : documentFraming par) {extra rest : List Symbol} {back : Nat}
    (hextra : oneEntryMore par P extra rest back) (hfull : par.payloadMax ≤ es.length) :
    frmRest par P (extra ++ rest) (frmInPacket P es cur w) =
      .error (.payloadOverflow, frmInPacket P es (cur + extra.length - back) w) := by
  rcases hextra with ⟨q, hq, rfl, rfl⟩ | ⟨rfl, rfl⟩ | ⟨rfl, rfl, rfl⟩
  · exact frmRest_append_error ((frmLoop_piece hpar hq).trans (by rw [frmPush_full hfull]; rfl))
  · refine frmRest_append_error ((frmLoop_escape (by simp)).trans ?_)
    rw [frmEscaped, if_neg (by simp), if_neg (by simp), payPushInvalid_frmInPacket, frmPush_full hfull]
    rfl
  · rw [List.append_nil, endSymbols, frmRest_ok (frmLoop_esc []), frmAtEnd_frmEscaping, frmPush_full hfull]
    rfl

/-- A packet's pieces and all that follows them, from a framer that is seeking: the payload up to its entries. -/
theorem frmRest_payload (hP : framingConditions P = true) (hpar : documentFraming par) (hst : w.regs.st = .seeking)
    {skipped rest : List Symbol} {ps : List PayPiece} (hskip : ∀ y ∈ skipped, passedOver P y)
    (hps : ∀ p ∈ ps, pieceLawful par P p) (hroom : ps.length ≤ par.payloadMax) :
    frmRest par P (skipped ++ P.startSeq.map .byte ++ ps.flatMap (pieceSymbols par) ++ rest) w =
      frmRest par P rest (frmInPacket P (ps.map (pieceEntry par))
        (w.regs.cur + (skipped ++ P.startSeq.map Symbol.byte ++ ps.flatMap (pieceSymbols par)).length) w) := by
  have hpieces := frmLoop_pieces (w := frmAdvance skipped.length w) (es := [])
    (cur := w.regs.cur + skipped.length + P.startSeq.length) hpar hps (by simpa using hroom)
  rw [List.nil_append] at hpieces
  have hseq : frmLoop par P (P.startSeq.map .byte) (frmAdvance skipped.length w) = .ok _ :=
    frmLoop_startSeq hP hst
  rw [List.append_assoc, List.append_assoc, frmRest_append_ok (frmLoop_passedOver hst hskip),
    frmRest_append_ok hseq]
  refine (frmRest_append_ok hpieces).trans ?_
  simp only [List.length_append, List.length_map, ← Nat.add_assoc]
  rfl

end

/- ### The report of a packet -/

theorem packetReport_raw (par : EngineParams) (pay : List PayEntry) (bad : Bool) :
    (packetReport par pay bad).raw = pay := by
  unfold packetReport pairReport
  split
  · split
    · split
      · rfl
      · split <;> rfl
    · rfl
  · rfl

theorem packetReport_of_not_pair {par : EngineParams} {pay : List PayEntry} {bad : Bool}
    (h : ¬(pay.length = par.pairLen ∧ bad = false)) : packetReport par pay bad = ⟨.error, 0, pay⟩ := if_neg h

section
variable {par : EngineParams} (hcoder : documentCoder par)
include hcoder

/-- The report of a payload read as a pair, by the closed form (spec 43_framer.md R152). -/
theorem pairReport_lawful (data given : Half) (raw : List PayEntry) :
    (closedCheck data = given ∧ pairReport par data given raw = ⟨.ok, data, raw⟩) ∨
    (closedCheck data ≠ given ∧
      ∃ d g, clearsTo data given d g ∧ closedCheck d = g ∧ pairReport par data given raw = ⟨.autofix, d, raw⟩) ∨
    ((∀ d g, clearsTo data given d g → closedCheck d ≠ g) ∧ pairReport par data given raw = ⟨.chkfail, 0, raw⟩) := by
  by_cases hvalid : checkValue par data = given
  · exact .inl ⟨checkValue_eq_closedCheck hcoder data ▸ hvalid, by rw [pairReport, if_pos hvalid]⟩
  · cases hfix : autofixValue par data given with
    | some d =>
      obtain ⟨g, hclear, hd⟩ := (autofixValue_eq_some_iff hcoder).mp hfix
      exact .inr (.inl ⟨checkValue_eq_closedCheck hcoder data ▸ hvalid, d, g, hclear,
        checkValue_eq_closedCheck hcoder d ▸ hd, by rw [pairReport, if_neg hvalid, hfix]⟩)
    | none =>
      refine .inr (.inr ⟨fun d g hclear hd => ?_, by rw [pairReport, if_neg hvalid, hfix]⟩)
      rw [← checkValue_eq_closedCheck hcoder] at hd
      exact autofixValue_ne_none hclear hd hfix

/-- The report of a payload of good bytes (spec 43_framer.md R152). -/
theorem packetReport_valid (hlen : par.pairLen = 4) (bs : List Byte) :
    reportOf bs (packetReport par (bs.map .valid) false) := by
  have hshort : (bs.map PayEntry.valid).length ≠ 4 →
      packetReport par (bs.map .valid) false = ⟨.error, 0, bs.map .valid⟩ := fun h =>
    packetReport_of_not_pair (by simpa [hlen] using h)
  match bs with
  | [] => exact hshort (by simp)
  | [_] => exact hshort (by simp)
  | [_, _] => exact hshort (by simp)
  | [_, _, _] => exact hshort (by simp)
  | [p0, p1, p2, p3] =>
    have hpair : packetReport par ([p0, p1, p2, p3].map .valid) false =
        pairReport par (p0 ++ p1) (p2 ++ p3) ([p0, p1, p2, p3].map .valid) := if_pos ⟨hlen.symm, rfl⟩
    rw [hpair]
    exact pairReport_lawful hcoder (p0 ++ p1) (p2 ++ p3) _
  | _ :: _ :: _ :: _ :: _ :: _ => exact hshort (by simp)

/-- The report of any payload (spec 43_framer.md R152). -/
theorem packetReport_lawful (hlen : par.pairLen = 4) (es : List PayEntry) :
    reportOfEntries es (packetReport par es (decide (.invalid ∈ es))) := by
  by_cases hbad : .invalid ∈ es
  · exact .inr ⟨hbad, packetReport_of_not_pair (by simp [hbad])⟩
  · have hgood : es = (es.map entryValue).map .valid := by
      rw [List.map_map]
      refine (List.map_id es).symm.trans (List.map_congr_left fun e he => ?_)
      cases e with
      | valid v => rfl
      | invalid => exact absurd he hbad
    rw [decide_eq_false hbad, hgood]
    exact .inl ⟨_, rfl, packetReport_valid hcoder hlen _⟩

end

/- ### `FRAME` on a packet -/

theorem framingConditions_of_hasProfile {s : State} {P : Profile} (h : hasProfile .duty s P) :
    framingConditions P = true := by
  obtain ⟨-, hkind, hwf⟩ := h
  simp only [profileWellFormed, hkind, Bool.and_eq_true] at hwf
  obtain ⟨-, -, hframing⟩ := hwf
  exact hframing

theorem noiseReports_eq_noiseMarker {r : BitVec 2} (h : r.toNat ≤ 2) : noiseReports r = noiseMarker r := by
  have hall : ∀ r : BitVec 2, r.toNat ≤ 2 → noiseReports r = noiseMarker r := by decide
  exact hall r h

/-- Settles O30: what stands before the packet leaves the framer seeking, and the packet adds its one report. -/
theorem frameDestuffsAndClassifies : Obligations.FrameDestuffsAndClassifies := by
  intro s P lead skipped ps fin es h hcoder hpar hterm hlead hskip hps hes hroom hsym
  have hP := framingConditions_of_hasProfile h
  have hpairLen : s.par.pairLen = 4 := hpar.2.2.2.2.2
  obtain ⟨v, hloop, hst, hkept, hrun⟩ := frmLoop_closedLead (P := P) hlead
  have hlen : ps.length ≤ s.par.payloadMax := by
    have := congrArg List.length hes
    simp at this
    omega
  have hall : frmRun s.par P s.sym = .ok (frmClosed s.par es s.sym.length v) := by
    rw [hsym, frmRun_eq_frmRest, List.append_assoc lead, List.append_assoc lead, List.append_assoc lead,
      frmRest_append_ok hloop, frmRest_payload hP hpar hst hskip hps hlen,
      frmRest_endSymbols hterm fin (hes ▸ hroom), ← hes, hkept.cur]
    simp only [List.length_append, Nat.add_assoc]
  refine ⟨_, _, exec_frame_ok (s := { s with sym := lead }) h hrun, packetReport_lawful hcoder hpairLen es, ?_, ?_⟩
  · rw [exec_frame_ok h hall]
    simp [frmClosed, frmFinish]
  · rintro rfl
    cases hloop
    exact ⟨rfl, rfl, rfl⟩

/- ### Faults of `FRAME` -/

/-- The framer stopped with the work `w`; the end of the data after it adds what `cutShort` says (spec 43_framer.md
R152 to R154). -/
theorem cutShort_of_frmAtEnd {par : EngineParams} {w z : FrmWork} (hrun : w.regs.abortRun.toNat ≤ 2)
    (h : (frmAtEnd par w).map frmFinish = .ok z) {u : State} (hpay : u.pay = z.pay) (hrep : u.rep = z.rep) :
    cutShort w.regs w.pay w.rep u := by
  have hnoise := noiseReports_eq_noiseMarker hrun
  rw [cutShort, hpay, hrep]
  cases hst : w.regs.st with
  | seeking =>
    rw [frmAtEnd_seeking hst] at h
    cases h
    exact ⟨rfl, by rw [← hnoise]; rfl⟩
  | aborted =>
    rw [frmAtEnd_aborted hst] at h
    cases h
    exact ⟨rfl, by rw [← hnoise]; rfl⟩
  | inStartSequence =>
    rw [frmAtEnd_inStartSequence hst] at h
    cases h
    have hnext : ∀ r : BitVec 2, noiseReports (abortRunNext r) = noiseMarker (if r = 0 then 1 else 2) := by decide
    exact ⟨rfl, by rw [← hnext]; rfl⟩
  | inPayload =>
    cases hesc : w.regs.esc with
    | false =>
      rw [frmAtEnd_inPayload hst hesc] at h
      cases h
      exact ⟨by simp [frmFinish], packetReport par w.pay w.regs.bad, packetReport_raw .., by
        simp [frmFinish, noiseReports, endReport, ← hnoise]⟩
    | true =>
      rcases lt_or_ge w.pay.length par.payloadMax with hroom | hfull
      · rw [frmAtEnd_escape hst hesc hroom] at h
        cases h
        exact ⟨by simp [frmFinish], packetReport par (w.pay ++ [.invalid]) true, packetReport_raw .., by
          simp [frmFinish, noiseReports, endReport, ← hnoise]⟩
      · rw [frmAtEnd_full hst hesc hfull] at h
        cases h

/-- Settles O33: the symbols before an `END` are taken without a fault, and so are those of a payload that fills
`PAY`. -/
theorem frameFaultsOnBadInput : Obligations.FrameFaultsOnBadInput := by
  intro s P h
  refine ⟨fun before rest hend hlen hsym => ?_, fun lead skipped extra rest ps back hpar hterm hlead hskip hps hfull
    hextra hsym => ?_⟩
  · obtain ⟨z, hrun, -⟩ := frmRun_ok P hlen hend
    rcases (frmKept_start s.par P).loop before with ⟨w, hloop, hkept⟩ | ⟨c, w, -, -, ⟨-, hmem⟩ | ⟨-, hlong⟩⟩
    · have hstop : frmRun s.par P s.sym = .error (.badSymbol, w) := by
        rw [hsym, frmRun_eq_frmRest, frmRest_append_ok hloop, frmRest, frmLoop, frmSymbol_endMark]
      have hend : (frmAtEnd s.par w).map frmFinish = .ok z := by rwa [frmRun, hloop] at hrun
      exact ⟨_, _, _, _, exec_frame_error h hstop, hkept.cur, exec_frame_ok (s := { s with sym := before }) h hrun,
        cutShort_of_frmAtEnd hkept.run hend rfl rfl⟩
    · exact absurd hmem hend
    · exact absurd hlong (Nat.not_lt.mpr hlen)
  · have hP := framingConditions_of_hasProfile h
    obtain ⟨v, hloop, hst, hkept, hrun⟩ := frmLoop_closedLead (P := P) hlead
    have hentries : s.par.payloadMax ≤ (ps.map (pieceEntry s.par)).length := by simp [hfull]
    have hstop : frmRun s.par P s.sym =
        .error (.payloadOverflow, frmInPacket P (ps.map (pieceEntry s.par))
          (v.regs.cur + (skipped ++ P.startSeq.map Symbol.byte ++ ps.flatMap (pieceSymbols s.par)).length +
            extra.length - back) v) := by
      rw [hsym, frmRun_eq_frmRest, List.append_assoc _ extra, List.append_assoc lead, List.append_assoc lead,
        List.append_assoc lead, frmRest_append_ok hloop, frmRest_payload hP hpar hst hskip hps hfull.le]
      exact frmRest_overflow hpar hextra hentries
    refine ⟨_, _, _, exec_frame_error h hstop, rfl, ?_, exec_frame_ok (s := { s with sym := lead }) h hrun, ?_⟩
    · have hback : back ≤ extra.length := by
        rcases hextra with ⟨q, hq, rfl, rfl⟩ | ⟨rfl, rfl⟩ | ⟨rfl, rfl, rfl⟩
        · exact pieceSymbols_length_pos ..
        · exact Nat.le_add_left ..
        · exact Nat.zero_le _
      have hcur := hkept.cur
      rw [hsym]
      simp only [List.length_append] at hcur ⊢
      simp only [frmInPacket]
      omega
    · show v.rep ++ noiseMarker v.regs.abortRun ++ [endReport] = _
      rw [← noiseReports_eq_noiseMarker hkept.run]
      rfl

end Sys2Proof.Machine
end

section
/-! Proofs of the statement of spec 43_framer.md section 3 about packets whose start sequence fails: the mismatch, what
is skipped after it, a run of such packets, and R151, R153 and R154 from them. -/

namespace Sys2Proof.Machine

/-- The work in `st` with the cursor at `total`, after the outcome that aborted a packet at `pos`. -/
def frmAbortedAt (st : FrmState) (pos total : Nat) (w : FrmWork) : FrmWork :=
  { w with regs :=
    { w.regs with
      st := st
      idx := 0
      cur := total
      abortRun := abortRunNext w.regs.abortRun
      mmValid := true
      mmPos := if w.regs.mmValid then w.regs.mmPos else pos } }

/-- The work after `n` failed packets and nothing else, the first mismatch at `pos`. -/
def frmNoise (n pos total : Nat) : FrmWork :=
  ⟨⟨.seeking, 0, total, false, false, BitVec.ofNat 2 (min n 2), true, pos⟩, [], []⟩

theorem abortRunNext_ofNat (n : Nat) :
    abortRunNext (BitVec.ofNat 2 (min n 2)) = BitVec.ofNat 2 (min (n + 1) 2) := by
  rw [abortRunNext, BitVec.toNat_ofNat, Nat.mod_eq_of_lt (by omega), show min (min n 2 + 1) 2 = min (n + 1) 2 by omega]

theorem frmAbortedAt_start (m k total : Nat) :
    frmAbortedAt .seeking (FrmRegs.clear.cur + m + k) (FrmRegs.clear.cur + total) ⟨.clear, [], []⟩ =
      frmNoise 1 (m + k) total := by
  rw [show FrmRegs.clear.cur = 0 from rfl, Nat.zero_add, Nat.zero_add]
  rfl

theorem frmAbortedAt_frmNoise (n pos total pos' total' : Nat) :
    frmAbortedAt .seeking pos' total' (frmNoise n pos total) = frmNoise (n + 1) pos total' := by
  rw [frmNoise, frmNoise, ← abortRunNext_ofNat]
  rfl

/-- The noise of failed packets at the end of the data: one report (spec 43_framer.md R153, R154). -/
theorem frmFinish_frmNoise {n : Nat} (hn : 1 ≤ n) (pos total : Nat) :
    frmFinish (frmNoise n pos total) =
      ⟨⟨.seeking, 0, total, false, false, 0, true, pos⟩, [],
        [⟨if n = 1 then .noise1 else .noise2, 0, []⟩, endReport]⟩ := by
  rcases Nat.lt_or_ge n 2 with hlt | hge
  · obtain rfl : n = 1 := by omega
    rfl
  · rw [if_neg (by omega), frmNoise, Nat.min_eq_right hge]
    rfl

theorem isBoundary_iff {P : Profile} {x : Symbol} (hx : x ≠ .endMark) : isBoundary P x = true ↔ endsPacket P x := by
  simp [isBoundary, endsPacket, hx]

section
variable {par : EngineParams} {P : Profile} {w : FrmWork} {x : Symbol}

theorem matchesTemplate_of_mismatch {k : Nat} (h : mismatch P k x) : matchesTemplate P k x = false := by
  obtain ⟨-, hx, -⟩ := h
  unfold matchesTemplate
  split
  next v hv => simpa using hx v hv
  next => rfl

/-- A mismatch aborts the packet (spec 43_framer.md R141, R142, R151). -/
theorem frmLoop_mismatch (hP : framingConditions P = true) (hst : w.regs.st = .seeking) {k : Nat}
    (hk : k < P.startSeq.length) (h : mismatch P k x) :
    frmLoop par P ((P.startSeq.take k).map .byte ++ [x]) w =
      .ok (frmAbortedAt (if isBoundary P x then .seeking else .aborted) (w.regs.cur + k) (w.regs.cur + k + 1) w) := by
  have hmatch := matchesTemplate_of_mismatch h
  obtain ⟨hend, -, hskip⟩ := h
  rcases Nat.eq_zero_or_pos k with rfl | hpos
  · have hcase : frmCase par P x w = .ok (abortPacket (isBoundary P x) w) := by
      rw [frmCase_seeking hst, frmSeeking, if_neg (mt isSkipped_iff.mp (hskip rfl)), hmatch,
        if_neg Bool.false_ne_true]
    exact frmLoop_cons_ok hend hcase
  · have hidx : (frmInTemplate k w).regs.idx.toNat = k := by
      have hlen := startSeq_length hP
      show (BitVec.ofNat 4 k).toNat = k
      rw [BitVec.toNat_ofNat]
      omega
    have hcase : frmCase par P x (frmInTemplate k w) =
        .ok (abortPacket (isBoundary P x) (frmInTemplate k w)) := by
      rw [frmCase_inStartSequence rfl, frmMatching, hidx, hmatch, if_neg Bool.false_ne_true]
    rw [frmLoop_append_ok (frmLoop_template hP hst hpos hk), frmLoop_cons_ok hend hcase]
    rfl

/-- What follows a mismatch up to a boundary changes nothing (spec 43_framer.md R150). -/
theorem frmLoop_aborted {ys : List Symbol} (hst : w.regs.st = .aborted)
    (hys : ∀ y ∈ ys, ¬endsPacket P y ∧ y ≠ .endMark) : frmLoop par P ys w = .ok (frmAdvance ys.length w) := by
  induction ys generalizing w with
  | nil => rfl
  | cons y ys ih =>
    obtain ⟨⟨hy, hend⟩, hys⟩ := List.forall_mem_cons.mp hys
    have hcase : frmCase par P y w = .ok w := (frmCase_aborted hst).trans (congrArg _ (if_neg hy))
    rw [frmLoop_cons_ok hend hcase, ih (w := frmAdvance 1 w) hst hys, frmAdvance_frmAdvance, List.length_cons,
      Nat.add_comm 1]

/-- A boundary after a mismatch (spec 43_framer.md R150). -/
theorem frmLoop_aborted_boundary (hst : w.regs.st = .aborted) (hx : endsPacket P x) :
    frmLoop par P [x] w = .ok { w with regs := { w.regs with st := .seeking, cur := w.regs.cur + 1 } } := by
  have hend : x ≠ .endMark := by rcases hx with rfl | rfl <;> simp
  have hcase : frmCase par P x w = .ok { w with regs := { w.regs with st := .seeking } } :=
    (frmCase_aborted hst).trans (congrArg _ (if_pos hx))
  exact frmLoop_cons_ok hend hcase

/-- Up to the mismatch and what is skipped after it. -/
theorem frmLoop_failed (hP : framingConditions P = true) (hst : w.regs.st = .seeking) {lead skipped : List Symbol}
    {k : Nat} (hlead : ∀ y ∈ lead, passedOver P y) (hk : k < P.startSeq.length) (hx : mismatch P k x)
    (hskipped : ∀ y ∈ x :: skipped, ¬endsPacket P y ∧ y ≠ .endMark) :
    frmLoop par P (lead ++ (P.startSeq.take k).map .byte ++ x :: skipped) w =
      .ok (frmAbortedAt .aborted (w.regs.cur + lead.length + k)
        (w.regs.cur + (lead.length + k + (x :: skipped).length)) w) := by
  obtain ⟨⟨hnot, hend⟩, hskipped⟩ := List.forall_mem_cons.mp hskipped
  have hboundary : isBoundary P x = false := Bool.eq_false_iff.mpr (mt (isBoundary_iff hend).mp hnot)
  have hmismatch := frmLoop_mismatch (par := par) (w := frmAdvance lead.length w) hP hst hk hx
  rw [hboundary, if_neg Bool.false_ne_true] at hmismatch
  rw [List.append_assoc, frmLoop_append_ok (frmLoop_passedOver hst hlead), List.append_cons,
    frmLoop_append_ok hmismatch, frmLoop_aborted rfl hskipped]
  simp only [List.length_cons, Nat.add_comm skipped.length 1, ← Nat.add_assoc]
  rfl

theorem failedSymbols_length {f : FailedPacket} (hf : f.matched < P.startSeq.length) :
    (failedSymbols P f).length = f.lead.length + f.matched + f.tail.length := by
  simp [failedSymbols, Nat.min_eq_left hf.le, Nat.add_assoc]

/-- A failed packet with its boundary (spec 43_framer.md R150, R151). -/
theorem frmLoop_failedWhole (hP : framingConditions P = true) (hst : w.regs.st = .seeking) {f : FailedPacket}
    (hf : failedWhole P f) :
    frmLoop par P (failedSymbols P f) w =
      .ok (frmAbortedAt .seeking (w.regs.cur + f.lead.length + f.matched)
        (w.regs.cur + (failedSymbols P f).length) w) := by
  obtain ⟨hlead, hk, htail⟩ := hf
  rw [failedSymbols_length hk, failedSymbols]
  rcases htail with ⟨x, htail, hx, hends⟩ | ⟨x, skipped, b, htail, hx, hskipped, hends⟩
  · have hmismatch := frmLoop_mismatch (par := par) (w := frmAdvance f.lead.length w) hP hst hk hx
    rw [(isBoundary_iff hx.1).mpr hends, if_pos rfl] at hmismatch
    rw [htail, List.append_assoc, frmLoop_append_ok (frmLoop_passedOver hst hlead), hmismatch]
    simp only [List.length_singleton, ← Nat.add_assoc]
    rfl
  · rw [htail, ← List.append_assoc, frmLoop_append_ok (frmLoop_failed hP hst hlead hk hx hskipped),
      frmLoop_aborted_boundary rfl hends]
    simp only [frmAbortedAt, List.length_append, List.length_singleton, ← Nat.add_assoc]

/-- A failed packet that the end of the data cuts (spec 43_framer.md R150, R154). -/
theorem frmRest_failedCut (hP : framingConditions P = true) (hst : w.regs.st = .seeking) {f : FailedPacket}
    (hf : failedCut P f) :
    frmRest par P (failedSymbols P f) w =
      .ok (frmFinish (frmAbortedAt .seeking (w.regs.cur + f.lead.length + f.matched)
        (w.regs.cur + (failedSymbols P f).length) w)) := by
  obtain ⟨hlead, hk, htail⟩ := hf
  rw [failedSymbols_length hk, failedSymbols]
  rcases htail with ⟨htail, hpos⟩ | ⟨x, skipped, htail, hx, hskipped⟩
  · have htemplate := frmLoop_template (par := par) (w := frmAdvance f.lead.length w) hP hst hpos hk
    rw [htail, List.append_nil, frmRest_append_ok (frmLoop_passedOver hst hlead), frmRest_ok htemplate,
      frmAtEnd_inStartSequence rfl]
    simp only [List.length_nil, Nat.add_zero, ← Nat.add_assoc]
    rfl
  · rw [htail, frmRest_ok (frmLoop_failed hP hst hlead hk hx hskipped), frmAtEnd_aborted rfl]
    rfl

/-- Failed packets one after the other (spec 43_framer.md R151). -/
theorem frmLoop_failures (hP : framingConditions P = true) {fs : List FailedPacket} (hfs : ∀ f ∈ fs, failedWhole P f)
    (n pos total : Nat) :
    frmLoop par P (fs.flatMap (failedSymbols P)) (frmNoise n pos total) =
      .ok (frmNoise (n + fs.length) pos (total + (fs.flatMap (failedSymbols P)).length)) := by
  induction fs generalizing n total with
  | nil => rfl
  | cons f fs ih =>
    obtain ⟨hf, hfs⟩ := List.forall_mem_cons.mp hfs
    have hone := frmLoop_failedWhole (par := par) (w := frmNoise n pos total) hP rfl hf
    rw [frmAbortedAt_frmNoise] at hone
    rw [List.flatMap_cons, frmLoop_append_ok hone, ih hfs, List.length_append, List.length_cons]
    congr 2
    · omega
    · exact Nat.add_assoc ..

end

/-- Settles O31: after the first failed packet every other one only adds to the run of aborted outcomes. -/
theorem frameReportsOneMismatchOnce : Obligations.FrameReportsOneMismatchOnce := by
  intro s P fs all cut f rest h hfs hcut hrest hnone hall hhead hsym
  have hP := framingConditions_of_hasProfile h
  have hrun : frmRun s.par P s.sym =
      .ok (frmFinish (frmNoise all.length (f.lead.length + f.matched) s.sym.length)) := by
    rw [hsym, hall, frmRun_eq_frmRest]
    cases fs with
    | nil =>
      obtain rfl : cut = some f := by
        rw [hall] at hhead
        cases cut <;> simp_all
      rw [hnone (by simp), List.append_nil]
      have hone := frmRest_failedCut (par := s.par) (w := ⟨.clear, [], []⟩) hP rfl (hcut f rfl)
      rw [frmAbortedAt_start] at hone
      simpa using hone
    | cons f' fs =>
      obtain rfl : f' = f := by
        rw [hall] at hhead
        simpa using hhead
      obtain ⟨hf, hfs⟩ := List.forall_mem_cons.mp hfs
      have hone := frmLoop_failedWhole (par := s.par) (w := ⟨.clear, [], []⟩) hP rfl hf
      rw [frmAbortedAt_start] at hone
      have hmore := frmLoop_failures (par := s.par) hP hfs 1 (f'.lead.length + f'.matched) (failedSymbols P f').length
      rw [List.cons_append, List.flatMap_cons, List.flatMap_append, List.append_assoc, List.append_assoc,
        frmRest_append_ok hone]
      refine (frmRest_append_ok hmore).trans ?_
      cases cut with
      | none =>
        rw [Option.toList_none, List.flatMap_nil, List.nil_append, frmRest_ok (frmLoop_passedOver rfl hrest),
          frmAtEnd_seeking rfl]
        simp only [List.length_append, List.append_nil, List.length_cons, Nat.add_comm 1, ← Nat.add_assoc]
        rfl
      | some x =>
        rw [hnone (by simp), Option.toList_some, List.flatMap_singleton, List.append_nil,
          frmRest_failedCut hP rfl (hcut x rfl), frmAbortedAt_frmNoise]
        simp only [List.length_append, List.length_cons, List.length_nil, Nat.add_comm 1, ← Nat.add_assoc]
        rfl
  have hpos : 1 ≤ all.length := List.length_pos_of_mem (List.mem_of_head? hhead)
  rw [exec_frame_ok h hrun, frmFinish_frmNoise hpos]

end Sys2Proof.Machine
end

section
/-! Proofs about a capture (spec 46_sequencer.md section 4). First what its loop takes and how it ends, then R205 to
R209 from them, then a capture that takes everything a real channel shows. -/

namespace Sys2Proof.Machine

/- ### What a capture takes -/

/-- The first `k` arrivals follow each other in time, and the length limit holds at each. -/
def takenInTime (C L a0 : Nat) (tr : List Arrival) (k : Nat) : Prop :=
  ∀ j a b, j + 1 < k → tr[j]? = some a → tr[j + 1]? = some b → b.time - a.time ≤ C ∧ b.time - a0 ≤ L

/-- How a capture that took `k` arrivals, the last one `a`, ends below the buffer's limit: too long when the next one in
time exceeds the length limit, or the closing silence does (spec 46_sequencer.md R207, R209). -/
def endsBelowLimit (C L a0 : Nat) (tr : List Arrival) (k : Nat) (e : CaptureEnd) (a : Arrival) : Prop :=
  (e = .tooLong ↔
    (if ∃ b, tr[k]? = some b ∧ b.time - a.time ≤ C then ∃ b, tr[k]? = some b ∧ L < b.time - a0
      else L < a.time + C - a0)) ∧
  (e = .captured false → ∀ b, tr[k]? = some b → C < b.time - a.time)

/-- What a capture that took the first `k` arrivals, at least one, leaves and how it ends. -/
structure CaptureTook (par : EngineParams) (C L a0 : Nat) (tr : List Arrival) (k : Nat) (c : Capture)
    (e : CaptureEnd) : Prop where
  pos      : 1 ≤ k
  leLength : k ≤ tr.length
  leMax    : 1 ≤ par.captureMax → k ≤ par.captureMax
  cap      : c.cap = (tr.take k).map (·.dur)
  log      : c.log = c.cap.take par.logMax
  queue    : ∀ d ∈ c.dev.queue, ∃ a ∈ tr, a.dur = d
  inTime   : takenInTime C L a0 tr k
  received : e ≠ .nothingReceived
  full     : 1 ≤ par.captureMax → (e = .captured true ↔ k = par.captureMax)
  below    : k < par.captureMax → ∀ a, tr[k - 1]? = some a → endsBelowLimit C L a0 tr k e a

/-- The work of a capture that took the arrivals `done` from a running peripheral. -/
def captureOf (par : EngineParams) (done : List Arrival) : Capture :=
  ⟨done.map (·.dur), (done.map (·.dur)).take par.logMax, ⟨false, []⟩⟩

theorem capTake_captureOf (par : EngineParams) (done : List Arrival) (a : Arrival) :
    capTake par.logMax a.dur (captureOf par done) = captureOf par (done ++ [a]) := by
  rw [captureOf, capTake_running, logPush_take, captureOf, List.map_append, List.map_singleton]

theorem captureOf_nil (par : EngineParams) : captureOf par [] = ⟨[], [], ⟨false, []⟩⟩ := by simp [captureOf]

theorem arriveUntil_queue {t : Nat} {tr : List Arrival} {d : Nat} (h : d ∈ (arriveUntil t tr ⟨false, []⟩).queue) :
    ∃ a ∈ tr, a.dur = d := by
  rw [arriveUntil_running] at h
  obtain ⟨a, ha, rfl⟩ := List.mem_map.mp h
  exact ⟨a, List.takeWhile_subset _ ha, rfl⟩

section
variable {par : EngineParams} {C L a0 : Nat} {done rest : List Arrival} {last : Arrival}

/-- A capture that stops after the arrivals `done`, whatever stays in the queue. -/
theorem captureTook_of_done {dev : CaptureDev} {e : CaptureEnd} (hlast : done.getLast? = some last)
    (hroom : 1 ≤ par.captureMax → done.length ≤ par.captureMax)
    (htime : takenInTime C L a0 (done ++ rest) done.length)
    (hqueue : ∀ d ∈ dev.queue, ∃ a ∈ done ++ rest, a.dur = d) (hreceived : e ≠ .nothingReceived)
    (hfull : 1 ≤ par.captureMax → (e = .captured true ↔ done.length = par.captureMax))
    (hbelow : done.length < par.captureMax → endsBelowLimit C L a0 (done ++ rest) done.length e last) :
    CaptureTook par C L a0 (done ++ rest) done.length { captureOf par done with dev := dev } e where
  pos := List.length_pos_of_mem (List.mem_of_getLast? hlast)
  leLength := by simp
  leMax := hroom
  cap := by rw [List.take_left]; rfl
  log := rfl
  queue := hqueue
  inTime := htime
  received := hreceived
  full := hfull
  below hlt a ha := by
    have hpos : 0 < done.length := List.length_pos_of_mem (List.mem_of_getLast? hlast)
    rw [List.getElem?_append_left (by omega), ← List.getLast?_eq_getElem?, hlast] at ha
    cases ha
    exact hbelow hlt

theorem getElem?_append_length (done rest : List Arrival) : (done ++ rest)[done.length]? = rest.head? := by
  rw [List.getElem?_append_right le_rfl, Nat.sub_self, List.head?_eq_getElem?]

/-- Silence after the arrivals `done` (spec 46_sequencer.md R207, R209). -/
theorem captureTook_silence (hlast : done.getLast? = some last) (hroom : done.length < par.captureMax)
    (htime : takenInTime C L a0 (done ++ rest) done.length)
    (hnext : ∀ b, rest.head? = some b → C < b.time - last.time) :
    CaptureTook par C L a0 (done ++ rest) done.length (captureSilence C L a0 last.time (captureOf par done)).1
      (captureSilence C L a0 last.time (captureOf par done)).2 := by
  have hnone : ¬∃ b, (done ++ rest)[done.length]? = some b ∧ b.time - last.time ≤ C := by
    rintro ⟨b, hb, hle⟩
    rw [getElem?_append_length] at hb
    exact absurd (hnext b hb) (Nat.not_lt.mpr hle)
  rw [captureSilence]
  split
  next hlong =>
    refine captureTook_of_done hlast (fun _ => hroom.le) htime (by simp) (by simp) (by simp; omega) fun _ => ?_
    rw [endsBelowLimit, if_neg hnone]
    exact ⟨by simp [hlong], by simp⟩
  next hlong =>
    refine captureTook_of_done hlast (fun _ => hroom.le) htime (by simp) (by simp) (by simp; omega) fun _ => ?_
    rw [endsBelowLimit, if_neg hnone]
    exact ⟨by simp [hlong], fun _ b hb => hnext b (getElem?_append_length done rest ▸ hb)⟩

/-- One more arrival in time (spec 46_sequencer.md R207, R209). -/
theorem takenInTime_snoc {a : Arrival} (hlast : done.getLast? = some last)
    (htime : takenInTime C L a0 (done ++ a :: rest) done.length) (hC : a.time - last.time ≤ C) (hL : a.time - a0 ≤ L) :
    takenInTime C L a0 (done ++ a :: rest) (done ++ [a]).length := by
  intro j x y hj hx hy
  rw [List.length_append, List.length_singleton] at hj
  rcases Nat.lt_or_ge (j + 1) done.length with hlt | hge
  · exact htime j x y hlt hx hy
  · obtain hj : j + 1 = done.length := by omega
    rw [List.getElem?_append_left (by omega), show j = done.length - 1 by omega, ← List.getLast?_eq_getElem?,
      hlast] at hx
    rw [hj, getElem?_append_length] at hy
    cases hx
    cases hy
    exact ⟨hC, hL⟩

/-- The loop of a capture after the arrivals `done` (spec 46_sequencer.md R205, R207 to R209). -/
theorem captureLoop_took (hlast : done.getLast? = some last)
    (hroom : 1 ≤ par.captureMax → done.length ≤ par.captureMax)
    (htime : takenInTime C L a0 (done ++ rest) done.length) :
    ∃ k, CaptureTook par C L a0 (done ++ rest) k
      (captureLoop par C L a0 rest last.time (captureOf par done)).1
      (captureLoop par C L a0 rest last.time (captureOf par done)).2 := by
  have hlen : (captureOf par done).cap.length = done.length := List.length_map ..
  induction rest generalizing done last with
  | nil =>
    rw [captureLoop, hlen]
    split
    next hfull =>
      exact ⟨_, captureTook_of_done hlast hroom htime (by simp) (by simp) (by simp; omega)
        fun hlt => absurd hlt (Nat.not_lt.mpr hfull)⟩
    next hfull => exact ⟨_, captureTook_silence hlast (Nat.not_le.mp hfull) htime (by simp)⟩
  | cons a rest ih =>
    rw [captureLoop, hlen]
    split
    next hfull =>
      refine ⟨_, captureTook_of_done hlast hroom htime (fun d hd => ?_) (by simp) (by simp; omega)
        fun hlt => absurd hlt (Nat.not_lt.mpr hfull)⟩
      obtain ⟨b, hb, hbd⟩ := arriveUntil_queue hd
      exact ⟨b, List.mem_append_right _ hb, hbd⟩
    next hfull =>
      have hlt := Nat.not_le.mp hfull
      split
      next hC =>
        split
        next hL =>
          refine ⟨_, captureTook_of_done hlast hroom htime (fun d hd => ?_) (by simp) (by simp; omega) fun _ => ?_⟩
          · obtain ⟨b, hb, hbd⟩ := arriveUntil_queue hd
            exact ⟨b, List.mem_append_right _ hb, hbd⟩
          · have hnext : (done ++ a :: rest)[done.length]? = some a := getElem?_append_length ..
            rw [endsBelowLimit, if_pos ⟨a, hnext, hC⟩]
            exact ⟨by simp [hL], by simp⟩
        next hL =>
          rw [capTake_captureOf]
          have hsnoc := takenInTime_snoc hlast htime hC (Nat.not_lt.mp hL)
          rw [List.append_cons] at hsnoc ⊢
          exact ih (by simp) (by simp; omega) hsnoc (List.length_map ..)
      next hC =>
        refine ⟨_, captureTook_silence hlast hlt htime fun b hb => ?_⟩
        cases hb
        exact Nat.not_le.mp hC

end

section
variable {par : EngineParams} {P : Profile} {W : Option Nat} {tr : List Arrival}

/-- Nothing arrived before the limit (spec 46_sequencer.md R206). -/
def nothingInTime (W : Option Nat) (tr : List Arrival) : Prop :=
  tr = [] ∨ ∃ a w, tr.head? = some a ∧ W = some w ∧ w ≤ a.time

theorem beforeLimit_eq_false_iff {t : Nat} : beforeLimit t W = false ↔ ∃ w, W = some w ∧ w ≤ t := by
  cases W <;> simp [beforeLimit]

/-- A capture on which nothing arrives in time: what came by the limit stays in the queue (assumption log 13). -/
theorem capture_of_nothing (h : nothingInTime W tr) (c : Capture) :
    ∃ dev, capture par P W tr c = ({ c with dev := dev }, .nothingReceived) ∧
      (c.dev = ⟨false, []⟩ → ∀ d ∈ dev.queue, ∃ a ∈ tr, a.dur = d) := by
  rcases h with rfl | ⟨a, w, ha, rfl, hle⟩
  · exact ⟨c.dev, rfl, fun hdev => by simp [hdev]⟩
  · obtain ⟨rest, rfl⟩ := List.head?_eq_some_iff.mp ha
    refine ⟨arriveUntil w (a :: rest) c.dev, ?_, fun hdev d hd => arriveUntil_queue (hdev ▸ hd)⟩
    rw [capture, if_neg (by simpa [beforeLimit] using hle)]
    rfl

/-- A capture on which something arrives in time takes it (spec 46_sequencer.md R205, R206). -/
theorem capture_of_something (h : ¬nothingInTime W tr) :
    ∃ a k, tr.head? = some a ∧ CaptureTook par P.packetContinueTimeout P.packetLengthTimeout a.time tr k
      (capture par P W tr ⟨[], [], ⟨false, []⟩⟩).1 (capture par P W tr ⟨[], [], ⟨false, []⟩⟩).2 := by
  cases tr with
  | nil => exact absurd (.inl rfl) h
  | cons a rest =>
    have hlimit : beforeLimit a.time W = true := by
      by_contra hnot
      obtain ⟨w, hw, hle⟩ := beforeLimit_eq_false_iff.mp (Bool.eq_false_iff.mpr hnot)
      exact h (.inr ⟨a, w, rfl, hw, hle⟩)
    obtain ⟨k, hk⟩ := captureLoop_took (par := par) (C := P.packetContinueTimeout) (L := P.packetLengthTimeout)
      (a0 := a.time) (done := [a]) (rest := rest) (last := a) rfl id
      (fun j _ _ hj => absurd hj (by simp))
    refine ⟨a, k, rfl, ?_⟩
    rw [capture, if_pos hlimit, ← captureOf_nil par, capTake_captureOf]
    exact hk

end

/-- Settles O37: the capture took the first `k` arrivals, or nothing arrived in time. -/
theorem captureFollowsTheTimeRules : Obligations.CaptureFollowsTheTimeRules := by
  intro par P W tr c e hmax _ hcapture
  by_cases hnothing : nothingInTime W tr
  · obtain ⟨dev, hnone, -⟩ := capture_of_nothing (par := par) (P := P) hnothing ⟨[], [], ⟨false, []⟩⟩
    rw [hcapture] at hnone
    cases hnone
    exact ⟨0, by simp, by simp, by simp, by simp, by simp, by simpa [nothingInTime] using hnothing, by simp,
      by simp; omega, by simp⟩
  · obtain ⟨a, k, ha, htook⟩ := capture_of_something (par := par) (P := P) hnothing
    rw [hcapture] at htook
    have hhead (b : Arrival) : tr.headD b = a := by rw [List.headD_eq_head?_getD, ha]; rfl
    have hk : k ≠ 0 := Nat.one_le_iff_ne_zero.mp htook.pos
    refine ⟨k, htook.leLength, htook.leMax hmax, htook.cap, htook.log, fun j x y hj hx hy => ?_,
      by simpa [hk, nothingInTime] using hnothing, by simpa [hk] using htook.received, htook.full hmax,
      fun _ hlt x hx => ?_⟩
    · rw [hhead]
      exact htook.inTime j x y hj hx hy
    · simp only [hhead]
      exact htook.below hlt x hx

/- ### What a real channel shows -/

@[simp] theorem arrivalsFrom_map_dur (t : Nat) (ds : List Nat) : (arrivalsFrom t ds).map (·.dur) = ds := by
  induction ds generalizing t with
  | nil => rfl
  | cons d ds ih => rw [arrivalsFrom, List.map_cons, ih]

theorem ascendingFrom_arrivalsFrom {t t' : Nat} (ht : t' ≤ t) (ds : List Nat) :
    ascendingFrom t' (arrivalsFrom t ds) = true := by
  induction ds generalizing t t' with
  | nil => rfl
  | cons d ds ih =>
    rw [arrivalsFrom, ascendingFrom, ih le_rfl, Bool.and_true, decide_eq_true_iff]
    exact Nat.le_add_right_of_le ht

theorem traceAdmitted_arrivalsFrom {par : EngineParams} {ds : List Nat} (h : ∀ d ∈ ds, d < 2 ^ par.durW) (t : Nat) :
    traceAdmitted par (arrivalsFrom t ds) = true := by
  rw [traceAdmitted, ascendingFrom_arrivalsFrom (Nat.zero_le t), Bool.true_and, List.all_eq_true]
  intro a ha
  refine decide_eq_true (h a.dur ?_)
  rw [← arrivalsFrom_map_dur t ds]
  exact List.mem_map_of_mem ha

/-- The rest of a packet that keeps to the limits (spec 46_sequencer.md R207, R209). -/
theorem captureLoop_arrivalsFrom {par : EngineParams} {C L a0 t : Nat} {ds : List Nat} (done : List Arrival)
    (hC : ∀ d ∈ ds, d ≤ C) (hL : t + ds.sum + C ≤ L + a0) (hroom : done.length + ds.length < par.captureMax) :
    captureLoop par C L a0 (arrivalsFrom t ds) t (captureOf par done) =
      (captureOf par (done ++ arrivalsFrom t ds), .captured false) := by
  have hlen : (captureOf par done).cap.length = done.length := List.length_map ..
  induction ds generalizing done t with
  | nil =>
    rw [List.length_nil] at hroom
    rw [List.sum_nil] at hL
    rw [arrivalsFrom, captureLoop, hlen, if_neg (by omega), captureSilence, if_neg (by omega), List.append_nil]
  | cons d ds ih =>
    obtain ⟨hd, hC⟩ := List.forall_mem_cons.mp hC
    rw [List.length_cons] at hroom
    rw [List.sum_cons] at hL
    rw [arrivalsFrom, captureLoop, hlen, if_neg (by omega), if_pos (by show t + d - t ≤ C; omega),
      if_neg (by show ¬L < t + d - a0; omega), capTake_captureOf]
    refine (ih (t := t + d) (done ++ [⟨t + d, d⟩]) hC (by omega) (by simp; omega) (List.length_map ..)).trans ?_
    rw [List.append_assoc, List.singleton_append]

/-- A capture of all that a real channel shows (spec 46_sequencer.md R206 to R209). -/
theorem capture_whole {par : EngineParams} {P : Profile} {unbounded : Bool} {t : Nat} {ds : List Nat}
    (h : capturedWhole par P unbounded t ds) :
    capture par P (if unbounded then none else some P.replyTimeout) (arrivalsFrom t ds) ⟨[], [], ⟨false, []⟩⟩ =
      (⟨ds, ds.take par.logMax, ⟨false, []⟩⟩, .captured false) := by
  obtain ⟨hstart, hC, hL, hne, hroom, -⟩ := h
  cases ds with
  | nil => exact absurd rfl hne
  | cons d ds =>
    have hlimit : beforeLimit (t + d) (if unbounded then none else some P.replyTimeout) = true := by
      rcases hstart with rfl | hlt
      · rfl
      · cases unbounded
        · exact decide_eq_true hlt
        · rfl
    have hloop := captureLoop_arrivalsFrom (par := par) (C := P.packetContinueTimeout) (L := P.packetLengthTimeout)
      (a0 := t + d) (t := t + d) (ds := ds) [⟨t + d, d⟩] hC (by rw [List.tail_cons] at hL; omega)
      (by rw [List.length_cons] at hroom; rw [List.length_singleton]; omega)
    rw [arrivalsFrom, capture, if_pos hlimit, ← captureOf_nil par, capTake_captureOf]
    refine hloop.trans ?_
    rw [captureOf, List.singleton_append, List.map_cons, arrivalsFrom_map_dur]

end Sys2Proof.Machine
end

section
/-! Proofs of the statements of spec 43_framer.md section 4 and of 46_sequencer.md sections 2 to 5 about one operation.
First `CROP` and the selection, then each step as what it does under its profile, then the ends of a receive, and the
packets of a peer from end to end. -/

namespace Sys2Proof.Machine

/- ### `CROP` -/

theorem all_isByte_map (bs : List Byte) : (bs.map Symbol.byte).all isByte = true := by
  simp [List.all_map, isByte]

theorem isByte_eq_false {x : Symbol} (h : ∀ v, x ≠ .byte v) : isByte x = false := by
  cases x with
  | byte v => exact absurd rfl (h v)
  | byteError => rfl
  | longGap => rfl
  | endMark => rfl

/-- What `CROP` leaves of bytes (spec 43_framer.md R160). -/
theorem cropped_bytes {P : Profile} {lead body trail : List Byte} (hlead : lead.length = P.cropLead.toNat)
    (htrail : trail.length = P.cropTrail.toNat) :
    cropped P ((lead ++ body ++ trail).map .byte) = body.map .valid := by
  have hbody : ((lead ++ body ++ trail).drop lead.length).take
      ((lead ++ body ++ trail).length - lead.length - trail.length) = body := by
    rw [List.append_assoc, List.drop_left, List.length_append, List.length_append, Nat.add_sub_cancel_left,
      Nat.add_sub_cancel, List.take_left]
  rw [cropped, ← hlead, ← htrail, ← List.map_drop, List.length_map, ← List.map_take, hbody, List.filterMap_map]
  exact List.filterMap_eq_map ▸ rfl

section
variable {P : Profile} {s : State} {lead body trail : List Byte}

/-- `CROP` on bytes that leave a payload that fits (spec 43_framer.md R160). -/
theorem cropCore_bytes (hlead : lead.length = P.cropLead.toNat) (htrail : trail.length = P.cropTrail.toNat)
    (hsym : s.sym = (lead ++ body ++ trail).map .byte) (hroom : body.length ≤ s.par.payloadMax) :
    cropCore P s = .ok
      { s with pay := body.map .valid, rep := [⟨.dump, 0, body.map .valid⟩], out := ⟨.bytes, 0, 0, 0⟩ } := by
  have hcrop := hsym ▸ cropped_bytes (body := body) hlead htrail
  have hlen : s.sym.length = lead.length + body.length + trail.length := by simp [hsym]; omega
  have hall : s.sym.all isByte = true := hsym ▸ all_isByte_map _
  rw [cropCore, if_pos hall, if_neg (by omega), hcrop, if_neg (by rw [List.length_map]; omega)]
  rfl

theorem cropCore_overflow (hlead : lead.length = P.cropLead.toNat) (htrail : trail.length = P.cropTrail.toNat)
    (hsym : s.sym = (lead ++ body ++ trail).map .byte) (hlong : s.par.payloadMax < body.length) :
    cropCore P s = .halted
      { s with
        pay := (body.take s.par.payloadMax).map .valid
        rep := []
        out := ⟨.noOutcome, 0, 0, 0⟩
        fault := ⟨true, 5⟩ } := by
  have hcrop := hsym ▸ cropped_bytes (body := body) hlead htrail
  have hlen : s.sym.length = lead.length + body.length + trail.length := by simp [hsym]; omega
  have hall : s.sym.all isByte = true := hsym ▸ all_isByte_map _
  rw [cropCore, if_pos hall, if_neg (by omega), hcrop, if_pos (by rw [List.length_map]; omega), List.map_take]
  rfl

end

theorem cropCore_tooShort {P : Profile} {s : State} (hall : s.sym.all isByte = true)
    (hshort : s.sym.length < P.cropLead.toNat + P.cropTrail.toNat) :
    cropCore P s = .ok
      { s with
        pay := []
        rep := []
        out := ⟨.badPacket, 10, s.sym.length, P.cropLead.toNat + P.cropTrail.toNat⟩ } := by
  rw [cropCore, if_pos hall, if_pos hshort]
  rfl

theorem cropCore_badSymbol {P : Profile} {s : State} (hall : s.sym.all isByte = false) :
    cropCore P s = .halted { s with pay := [], rep := [], out := ⟨.noOutcome, 0, 0, 0⟩, fault := ⟨true, 8⟩ } := by
  rw [cropCore, if_neg (by simp [hall])]
  rfl

theorem exec_crop_of_hasProfile {s : State} {P : Profile} (h : hasProfile .pd s P) :
    exec .crop s = (cropCore P s).toOutcome := (exec_crop s).trans (withKind_toOutcome_of_hasProfile _ h)

/-- Settles O34: the four ends of `CROP`. -/
theorem cropCutsLeadAndTrail : Obligations.CropCutsLeadAndTrail := by
  intro s P h
  rw [exec_crop_of_hasProfile h]
  refine ⟨fun lead body trail hlead htrail hsym => ⟨fun hroom => ?_, fun hlong => ?_⟩, fun bs hsym hshort => ?_,
    fun ⟨x, hx, hnot⟩ => ?_⟩
  · rw [cropCore_bytes hlead htrail hsym hroom]
    rfl
  · rw [cropCore_overflow hlead htrail hsym hlong]
    rfl
  · have hlen : s.sym.length = bs.length := by rw [hsym, List.length_map]
    rw [cropCore_tooShort (hsym ▸ all_isByte_map bs) (hlen ▸ hshort), hlen]
    rfl
  · have hall : s.sym.all isByte = false := List.all_eq_false.mpr ⟨x, hx, by simp [isByte_eq_false hnot]⟩
    rw [cropCore_badSymbol hall]
    rfl

/- ### Selection and reset -/

theorem selectProfile_of_lt {s : State} (h : s.op.a < s.profiles.length) :
    selectProfile s = .ok { s with cfg := ⟨s.op.a, true, s.cfg.trace⟩ } := if_neg (Nat.not_le.mpr h)

theorem selectProfile_of_le {s : State} (h : s.profiles.length ≤ s.op.a) :
    selectProfile s = .halted { s with fault := ⟨true, 2⟩ } := if_pos h

theorem exec_profsel (s : State) : exec .profsel s = (selectProfile s).toOutcome := rfl

/-- Settles O35: the row is in the table, or beyond it. -/
theorem profselSelectsARow : Obligations.ProfselSelectsARow := by
  intro s
  refine ⟨fun h => ⟨?_, rfl⟩, fun h => ?_⟩
  · rw [exec_profsel, selectProfile_of_lt h, Run.toOutcome_ok]
  · rw [exec_profsel, selectProfile_of_le h, Run.toOutcome_halted]

/-- Settles O36: `XRESET` is its definition, field by field. -/
theorem xresetIsTheStepReset : Obligations.XresetIsTheStepReset := fun _ => rfl

/- ### Under an admitted profile -/

theorem admitting_of_admitted {P : Profile} (h : profileAdmitted P = true) (r : Run) : admitting P r = r := if_pos h

theorem profileAdmitted_of_wellFormed {P : Profile} (h : profileWellFormed P = true) : profileAdmitted P = true :=
  profileAdmitted_iff.mpr (.inl h)

theorem illFormed_iff {P : Profile} : illFormed P ↔ profileAdmitted P = false := by
  rw [← Bool.not_eq_true, profileAdmitted_iff, illFormed]
  simp [not_or]

/-- How long a receive waits for its first Duration (spec 46_sequencer.md R206, R210). -/
def waitLimit (w : Bool) (P : Profile) : Option Nat := if w then none else some P.replyTimeout

section
variable {s : State} {P : Profile}

/-- A receive-first step under a profile (spec 46_sequencer.md R210). -/
theorem rxStep_of_admitted (hsel : selectedProfile s = some P) (hadm : profileAdmitted P = true) (w t : Bool) :
    rxStep w t s = receive t P (waitLimit w P) (startStep t s) := by
  rw [rxStep, withProfile_some ((selectedProfile_startStep t s).trans hsel), admitting_of_admitted hadm]
  rfl

/-- A transmit-first step under a profile (spec 46_sequencer.md R212). -/
theorem txrxStep_of_admitted (hsel : selectedProfile s = some P) (hadm : profileAdmitted P = true) (t : Bool) :
    txrxStep t s =
      (modulate P (startStep t s)).andThen fun s1 => receive t P (some P.replyTimeout) (emitAll s1) := by
  rw [txrxStep, withProfile_some ((selectedProfile_startStep t s).trans hsel), admitting_of_admitted hadm]

theorem rxStep_of_not_admitted (hsel : selectedProfile s = some P) (hadm : profileAdmitted P = false) (w t : Bool) :
    rxStep w t s = .refused .profileIllFormed := by
  rw [rxStep, withProfile_some ((selectedProfile_startStep t s).trans hsel), admitting_of_not hadm]

theorem txrxStep_of_not_admitted (hsel : selectedProfile s = some P) (hadm : profileAdmitted P = false) (t : Bool) :
    txrxStep t s = .refused .profileIllFormed := by
  rw [txrxStep, withProfile_some ((selectedProfile_startStep t s).trans hsel), admitting_of_not hadm]

/-- A receive that captures (spec 46_sequencer.md R204, R205). -/
theorem receive_captures {t : Bool} {W : Option Nat} (htrace : traceAdmitted s.par (nextTrace s) = true)
    (hends : ¬(nextTrace s = [] ∧ W = none)) (hlog : s.log = []) :
    receive t P W s =
      afterCapture t P (openReceive s) (capture s.par P W (nextTrace s) ⟨[], [], ⟨false, []⟩⟩) := by
  rw [receive, if_pos htrace, if_neg hends, hlog]
  rfl

theorem receive_of_not_admitted {t : Bool} {W : Option Nat} (htrace : traceAdmitted s.par (nextTrace s) = false) :
    receive t P W s = .refused .traceIllFormed := if_neg (by simp [htrace])

/-- An unbounded wait for nothing (spec 46_sequencer.md R217). -/
theorem receive_waitForever {t : Bool} (hnone : nextTrace s = []) : receive t P none s = .stuck .waitForever := by
  have htrace : traceAdmitted s.par (nextTrace s) = true := by rw [hnone]; rfl
  rw [receive, if_pos htrace, if_pos ⟨hnone, rfl⟩]

/-- The entries of `TXB` on the line, by the profile's kind (spec 46_sequencer.md R212). -/
def emissionOf (pulseBit : Bool) (P : Profile) (bs : List Byte) : List EmitEntry :=
  match P.kind with
  | .pd   => (pdEmission P bs).map .bare
  | .duty => dutyEmission pulseBit P bs

/-- `EMIT` has room for the packet, in the worst case where the profile is of kind `DUTY` (spec 45_modulator.md R188,
R193). -/
def emissionFits (emitMax : Nat) (P : Profile) (bs : List Byte) : Prop :=
  (P.kind = .pd → 16 * bs.length + 4 ≤ emitMax) ∧ (P.kind = .duty → bs.length * dutyPerByte P ≤ emitMax)

theorem emissionOf_pd (hkind : P.kind = .pd) (pulseBit : Bool) (bs : List Byte) :
    emissionOf pulseBit P bs = (pdEmission P bs).map .bare := by simp [emissionOf, hkind]

theorem emissionOf_duty (hkind : P.kind = .duty) (pulseBit : Bool) (bs : List Byte) :
    emissionOf pulseBit P bs = dutyEmission pulseBit P bs := by simp [emissionOf, hkind]

theorem emissionFits_pd (hkind : P.kind = .pd) {n : Nat} {bs : List Byte} (h : 16 * bs.length + 4 ≤ n) :
    emissionFits n P bs := ⟨fun _ => h, fun hduty => absurd (hkind.symm.trans hduty) (by simp)⟩

theorem emissionFits_of_worst_case {n : Nat} {bs : List Byte} (hpd : P.kind = .pd → 16 * bs.length + 4 ≤ n)
    (hduty : P.kind = .duty → bs.length * (18 + P.dutyStopTicks.toNat) ≤ n) : emissionFits n P bs :=
  ⟨hpd, fun hkind => (Nat.mul_le_mul_left bs.length (dutyPerByte_le P)).trans (hduty hkind)⟩

/-- A packet that fits fills `EMIT` (spec 46_sequencer.md R212). -/
theorem modulate_of_fits (h : emissionFits s.par.emitMax P s.txb) :
    modulate P s = .ok { s with emit := emissionOf s.par.pulseBit P s.txb } := by
  obtain ⟨hpd, hduty⟩ := h
  cases hkind : P.kind with
  | pd => simp only [modulate, hkind, modpdCore_fits (hpd hkind), emissionOf_pd hkind]
  | duty => simp only [modulate, hkind, moddutyCore_fits (hduty hkind), emissionOf_duty hkind]

/-- A packet that does not fit faults with `EMIT` empty. -/
theorem modulate_of_not_fits (h : ¬emissionFits s.par.emitMax P s.txb) :
    modulate P s = .halted (takeFault .emitOverflow { s with emit := [] }) := by
  cases hkind : P.kind with
  | pd =>
    have hlong : s.par.emitMax < 16 * s.txb.length + 4 := by
      by_contra hfit
      exact h (emissionFits_pd hkind (Nat.not_lt.mp hfit))
    simp only [modulate, hkind, modpdCore_overflow hlong]
  | duty =>
    have hlong : s.par.emitMax < s.txb.length * dutyPerByte P := by
      by_contra hfit
      exact h ⟨fun hpd => absurd (hkind.symm.trans hpd) (by simp), fun _ => Nat.not_lt.mp hfit⟩
    simp only [modulate, hkind, moddutyCore_overflow hlong]

/-- The state of a transmit-first step when its packet has been sent (spec 46_sequencer.md R212). -/
def sentStep (t : Bool) (P : Profile) (s : State) : State :=
  emitAll { startStep t s with emit := emissionOf s.par.pulseBit P s.txb }

theorem txrxStep_of_fits (hsel : selectedProfile s = some P) (hadm : profileAdmitted P = true)
    (h : emissionFits s.par.emitMax P s.txb) (t : Bool) :
    txrxStep t s = receive t P (some P.replyTimeout) (sentStep t P s) := by
  rw [txrxStep_of_admitted hsel hadm, modulate_of_fits (s := startStep t s) h]
  rfl

end

/- ### A conversation's start -/

/-- The state in which the steps of a conversation start (spec 46_sequencer.md R214). -/
def conversing (f : Nat) (t : Bool) (s : State) : State :=
  { s with op := ⟨f, s.op.b⟩, cfg := ⟨f, true, t⟩, conv := ⟨0, false⟩, seq := ⟨s.seq.st, 0⟩, results := [] }

section
variable {s : State} {f : Nat} {i : Bool} {ps : List (List Byte)} (hl : s.cmdList = ⟨f, i, ps⟩)
include hl

theorem exec_converse (hf : f < s.profiles.length) (w t : Bool) :
    exec (.converse w t) s = (converseSteps w t ⟨f, i, ps⟩ (conversing f t s)).toOutcome := by
  have hfam : (startConversation t s).op.a = f := by rw [startConversation_op, hl]
  have hsel := selectProfile_of_lt (s := startConversation t s) (hfam ▸ hf)
  show ((selectProfile (startConversation t s)).andThen _).toOutcome = _
  rw [hsel, hl, hfam, Run.andThen_ok]
  simp only [conversing, startConversation, clearConversation, hl]

theorem exec_converse_badProfile (hf : s.profiles.length ≤ f) (w t : Bool) :
    exec (.converse w t) s = .next
      { s with op := ⟨f, s.op.b⟩, cfg := { s.cfg with trace := t }, results := [], fault := ⟨true, 2⟩ } := by
  have hfam : (startConversation t s).op.a = f := by rw [startConversation_op, hl]
  have hsel := selectProfile_of_le (s := startConversation t s) (hfam ▸ hf)
  show ((selectProfile (startConversation t s)).andThen _).toOutcome = _
  rw [hsel, Run.andThen_halted, Run.toOutcome_halted]
  simp only [startConversation, hl]

end

/-- With the other side first a receive-first step comes before the packets (spec 46_sequencer.md R214). -/
theorem converseSteps_receiveFirst (w t : Bool) (f : Nat) (ps : List (List Byte)) (s : State) :
    converseSteps w t ⟨f, false, ps⟩ s = (rxStep w t s).andThen fun s1 =>
      if s1.out.kind = .bytes then conversePackets t (ps.length + 1) ps 1 (recordStep 1 s1)
      else .ok (stopConversation 1 (ps.length + 1) (recordStep 1 s1)) := rfl

theorem selectedProfile_conversing {s : State} {f : Nat} {t : Bool} {P : Profile} (h : s.profiles[f]? = some P) :
    selectedProfile (conversing f t s) = some P := h

/-- A conversation that opens with a receive stops where that receive stops. -/
theorem exec_converse_receiveFirst {s : State} {f : Nat} {ps : List (List Byte)} {P : Profile}
    (hl : s.cmdList = ⟨f, false, ps⟩) (hf : s.profiles[f]? = some P) (w t : Bool) :
    exec (.converse w t) s = ((rxStep w t (conversing f t s)).andThen fun s1 =>
      if s1.out.kind = .bytes then conversePackets t (ps.length + 1) ps 1 (recordStep 1 s1)
      else .ok (stopConversation 1 (ps.length + 1) (recordStep 1 s1))).toOutcome := by
  obtain ⟨hlt, -⟩ := List.getElem?_eq_some_iff.mp hf
  rw [exec_converse hl hlt, converseSteps_receiveFirst]

/- ### Refusals -/

/-- Settles O10: a profile that is not admitted is refused where it is read. -/
theorem illFormedProfileIsRefused : Obligations.IllFormedProfileIsRefused := by
  intro s P hsel hill
  have hnot := illFormed_iff.mp hill
  have hunit (k : Run) : admitting P k = .refused .profileIllFormed := admitting_of_not hnot
  refine ⟨fun hT => ?_, fun hkind i hi => ?_, fun hkind => ⟨fun hT t => ?_, fun i hi => ?_⟩, fun w t => ⟨?_, ?_, ?_⟩⟩
  · rw [exec_quant, withProfile_some hsel, if_neg hT, hunit]
    rfl
  · simp only [List.mem_cons, List.not_mem_nil, or_false] at hi
    rcases hi with rfl | rfl | rfl
    · rw [exec_pddec, withKind_some hsel, if_pos hkind, hunit]
      rfl
    · rw [exec_crop, withKind_some hsel, if_pos hkind, hunit]
      rfl
    · rw [exec_modpd, withKind_some hsel, if_pos hkind, hunit]
      rfl
  · rw [exec_dutydec, withKind_some hsel, if_pos hkind, if_neg hT, hunit]
    rfl
  · simp only [List.mem_cons, List.not_mem_nil, or_false] at hi
    rcases hi with rfl | rfl
    · rw [exec_frame, withKind_some hsel, if_pos hkind, hunit]
      rfl
    · rw [exec_modduty, withKind_some hsel, if_pos hkind, hunit]
      rfl
  · show (rxStep w t s).toOutcome = _
    rw [rxStep_of_not_admitted hsel hnot]
    rfl
  · show (txrxStep t s).toOutcome = _
    rw [txrxStep_of_not_admitted hsel hnot]
    rfl
  · intro f ps hl hf
    rw [exec_converse_receiveFirst hl hf, rxStep_of_not_admitted (selectedProfile_conversing hf) hnot]
    rfl

/-- Settles O38: the receive is refused, or has no end, before anything is captured. -/
theorem stopsOfAReceive : Obligations.StopsOfAReceive := by
  intro s P w t hwf
  have hadm := profileAdmitted_of_wellFormed hwf
  refine ⟨fun htrace => ⟨fun hsel => ?_, fun hsel hpd hduty => ?_, fun f ps hl hf => ?_⟩, fun hnone f ps hl hf => ?_⟩
  · show (rxStep w t s).toOutcome = _
    rw [rxStep_of_admitted hsel hadm, receive_of_not_admitted (s := startStep t s) htrace]
    rfl
  · show (txrxStep t s).toOutcome = _
    rw [txrxStep_of_fits hsel hadm (emissionFits_of_worst_case hpd hduty),
      receive_of_not_admitted (s := sentStep t P s) htrace]
    rfl
  · rw [exec_converse_receiveFirst hl hf, rxStep_of_admitted (selectedProfile_conversing hf) hadm,
      receive_of_not_admitted (s := startStep t (conversing f t s)) htrace]
    rfl
  · rw [exec_converse_receiveFirst hl hf, rxStep_of_admitted (selectedProfile_conversing hf) hadm]
    show ((receive t P none _).andThen _).toOutcome = _
    rw [receive_waitForever (s := startStep t (conversing f t s)) hnone]
    rfl

/- ### How a receive ends -/

section
variable {s : State} {P : Profile} {t : Bool} {W : Option Nat} (htrace : traceAdmitted s.par (nextTrace s) = true)
  (hlog : s.log = [])
include htrace hlog

/-- Nothing arrives in time (spec 46_sequencer.md R206, R210). -/
theorem receive_timedOut (hnothing : nothingInTime W (nextTrace s)) (hends : ¬(nextTrace s = [] ∧ W = none)) :
    ∃ q, receive t P W s = .ok
      { s with
        arrivals := s.arrivals.tail
        capDev := ⟨true, q⟩
        cap := []
        capFull := false
        seq := ⟨.timedOut, s.seq.step⟩
        out := ⟨.timedOut, 1, 0, 0⟩ } := by
  obtain ⟨dev, hcapture, -⟩ := capture_of_nothing (par := s.par) (P := P) hnothing ⟨[], [], ⟨false, []⟩⟩
  refine ⟨dev.queue, ?_⟩
  rw [receive_captures htrace hends hlog, hcapture, afterCapture_nothing]
  simp only [closeReceive, openReceive, capPause, outTimedOut, toNothingReceived, hlog]

/-- What the decoders of a step start from when the capture `c` has ended. -/
def capturedState (c : Capture) (full : Bool) (s : State) : State :=
  { s with
    arrivals := s.arrivals.tail
    capDev := ⟨true, c.dev.queue⟩
    cap := c.cap
    log := c.log
    capFull := full
    seq := ⟨.receiving, s.seq.step⟩ }

/-- A capture goes to the decoders (spec 46_sequencer.md R210, R211). -/
theorem receive_captured {c : Capture} {full : Bool}
    (hcapture : capture s.par P W (nextTrace s) ⟨[], [], ⟨false, []⟩⟩ = (c, .captured full)) :
    receive t P W s = (decodeStep t P (capturedState c full s)).andThen fun s1 => .ok (endStep s1) := by
  have hends : ¬(nextTrace s = [] ∧ W = none) := fun ⟨hnone, _⟩ => by
    rw [hnone] at hcapture
    cases hcapture
  rw [receive_captures htrace hends hlog, hcapture]
  rfl

/-- A capture past the length limit (spec 46_sequencer.md R209, R210). -/
theorem receive_tooLong {c : Capture}
    (hcapture : capture s.par P W (nextTrace s) ⟨[], [], ⟨false, []⟩⟩ = (c, .tooLong)) :
    receive t P W s = .ok
      { s with
        arrivals := s.arrivals.tail
        capDev := ⟨true, c.dev.queue⟩
        cap := c.cap
        log := c.log
        capFull := false
        seq := ⟨.badPacket, s.seq.step⟩
        out := ⟨.badPacket, 8, c.cap.length, P.packetLengthTimeout⟩ } := by
  have hends : ¬(nextTrace s = [] ∧ W = none) := fun ⟨hnone, _⟩ => by
    rw [hnone] at hcapture
    cases hcapture
  rw [receive_captures htrace hends hlog, hcapture, afterCapture_tooLong]
  rfl

end

theorem nothingInTime_of_late {tr : List Arrival} {T : Nat} (h : ∀ a, tr.head? = some a → T ≤ a.time) :
    nothingInTime (some T) tr := by
  cases tr with
  | nil => exact .inl rfl
  | cons a tr => exact .inr ⟨a, T, rfl, rfl, h a rfl⟩

/-- Settles O39: the step's receive times out, or has no end. -/
theorem rxstepWithNothingInTime : Obligations.RxstepWithNothingInTime := by
  intro s P t hsel hwf htrace
  have hadm := profileAdmitted_of_wellFormed hwf
  refine ⟨fun hlate => ?_, fun hnone => ?_⟩
  · obtain ⟨q, hreceive⟩ := receive_timedOut (s := startStep t s) (P := P) (t := t) htrace rfl
      (nothingInTime_of_late hlate) (by simp)
    refine ⟨q, ?_⟩
    show (rxStep false t s).toOutcome = _
    rw [rxStep_of_admitted hsel hadm]
    exact congrArg Run.toOutcome hreceive
  · show (rxStep true t s).toOutcome = _
    rw [rxStep_of_admitted hsel hadm]
    exact congrArg Run.toOutcome (receive_waitForever (s := startStep t s) hnone)

/-- Settles O43: the capture is kept and no decoder runs. -/
theorem rxstepReportsTooLong : Obligations.RxstepReportsTooLong := by
  intro s P w t c hsel hwf htrace hcapture
  refine ⟨c.dev.queue, ?_⟩
  show (rxStep w t s).toOutcome = _
  rw [rxStep_of_admitted hsel (profileAdmitted_of_wellFormed hwf)]
  exact congrArg Run.toOutcome (receive_tooLong (s := startStep t s) htrace rfl hcapture)

/-- Settles O44: the packet has been sent when the receive times out. -/
theorem txrxstepSendsBeforeItWaits : Obligations.TxrxstepSendsBeforeItWaits := by
  intro s P t es hsel hwf hpd hduty htrace hlate
  have hes : emissionOf s.par.pulseBit P s.txb = es := by
    cases hkind : P.kind with
    | pd => rw [emissionOf_pd hkind, (hpd hkind).2]
    | duty => rw [emissionOf_duty hkind, (hduty hkind).2]
  obtain ⟨q, hreceive⟩ := receive_timedOut (s := sentStep t P s) (P := P) (t := t) htrace rfl
    (nothingInTime_of_late hlate) (by simp)
  refine ⟨q, ?_⟩
  show (txrxStep t s).toOutcome = _
  rw [txrxStep_of_fits hsel (profileAdmitted_of_wellFormed hwf)
    (emissionFits_of_worst_case (fun hkind => (hpd hkind).1) fun hkind => (hduty hkind).1), hreceive, ← hes]
  rfl

/-- A tick length of 0 under a duty profile, inside a step (93_implementation_defined.md U8). -/
theorem decodeStep_zeroTick {P : Profile} (hkind : P.kind = .duty) (hT : P.tickLen = 0) (t : Bool) (s : State) :
    decodeStep t P s = .halted (takeFault .div0 (dtStart t s)) := by
  simp [decodeStep, hkind, dutydecCore, hT]

/-- Settles O9: the tick length is read before any Duration. -/
theorem zeroTickFaults : Obligations.ZeroTickFaults := by
  intro s P hsel hT
  refine ⟨?_, fun hkind t => ?_, fun hkind hwf htrace t c full => ⟨fun w hcapture => ?_, fun hfit hcapture => ?_⟩⟩
  · rw [exec_quant, withProfile_some hsel, if_pos hT]
    rfl
  · rw [exec_dutydec, withKind_some hsel, if_pos hkind, if_pos hT, dutydecCore, if_pos hT]
    rfl
  · have hadm := profileAdmitted_iff.mpr (.inr ⟨hkind, hT, hwf⟩)
    have hreceive := receive_captured (s := startStep t s) (t := t) (W := waitLimit w P) htrace rfl hcapture
    show (rxStep w t s).toOutcome = _
    rw [rxStep_of_admitted hsel hadm, hreceive, decodeStep_zeroTick hkind hT]
    rfl
  · have hadm := profileAdmitted_iff.mpr (.inr ⟨hkind, hT, hwf⟩)
    have hper : dutyPerByte P = 9 + P.dutyStopTicks.toNat := by simp [dutyPerByte, hT]
    have hfits : emissionFits s.par.emitMax P s.txb :=
      ⟨fun hpd => absurd (hkind.symm.trans hpd) (by simp), fun _ => hper ▸ hfit⟩
    show (txrxStep t s).toOutcome = _
    rw [txrxStep_of_fits hsel hadm hfits, receive_captured (s := sentStep t P s) htrace rfl hcapture,
      decodeStep_zeroTick hkind hT, ← dutyEmission_eq_byteEntries, ← emissionOf_duty hkind]
    rfl

end Sys2Proof.Machine
end

section
/-! Proofs of the statements of spec 46_sequencer.md section 5 about a peer's whole packet, from end to end: the capture
takes it, the decoder of its kind reads it, and `CROP` or the framer makes the reports of it. -/

namespace Sys2Proof.Machine

/- ### A pulse-distance packet -/

/-- A `PDDEC` that leaves `Bytes` ended without a fault. -/
theorem pddecCore_of_exec_bytes {s u : State} {P : Profile} (h : hasProfile .pd s P) (hexec : exec .pddec s = .next u)
    (hbytes : u.out.kind = .bytes) : pddecCore P s = .ok u := by
  rw [exec_pddec_of_hasProfile h] at hexec
  obtain ⟨sym, pd, out, -, ⟨-, hcore⟩ | ⟨rfl, -, -, hcore⟩⟩ := pddecCore_answers s.par.symMax P s.cap
  · rw [hcore s rfl rfl] at hexec ⊢
    exact congrArg Run.ok (Host.Outcome.next.inj hexec)
  · rw [hcore s rfl rfl] at hexec
    cases hexec
    cases hbytes

/-- The two decoders under a pulse-distance profile, the first of which ended in `Bytes` (spec 46_sequencer.md R211). -/
theorem decodeStep_pd_bytes {s u : State} {P : Profile} {t : Bool} (hkind : P.kind = .pd) (h : pddecCore P s = .ok u)
    (hbytes : u.out.kind = .bytes) : decodeStep t P s = cropCore P u := by
  simp only [decodeStep, hkind, h, Run.andThen_ok]
  exact if_pos hbytes

section
variable {s : State} {P : Profile} {lead body trail : List Byte} {ds : List Nat} (h : hasProfile .pd s P)
  (hds : ds = (pdEmission P (lead ++ body ++ trail)).dropLast) (hlead : lead.length = P.cropLead.toNat)
  (htrail : trail.length = P.cropTrail.toNat) (hsymMax : (lead ++ body ++ trail).length ≤ s.par.symMax)
  (hroom : body.length ≤ s.par.payloadMax)
include h hds hlead htrail hsymMax hroom

/-- The decoders on a packet a peer sent (spec 46_sequencer.md R211). -/
theorem decodeStep_pdPacket (t : Bool) (hcap : s.cap = ds) :
    decodeStep t P s = .ok
      { s with
        sym := (lead ++ body ++ trail).map .byte
        pd := ⟨0, 8 * (lead ++ body ++ trail).length, 16 * (lead ++ body ++ trail).length + 3, true⟩
        pay := body.map .valid
        rep := [⟨.dump, 0, body.map .valid⟩]
        out := ⟨.bytes, 0, 0, 0⟩ } := by
  have hpairs := hcap.trans (hds.trans ((pdEmission_dropLast _).trans (List.append_nil _).symm))
  have hdecode := pddecCore_of_exec_bytes h (exec_pddec_packet _ h hsymMax hpairs) rfl
  obtain ⟨-, hkind, -⟩ := h
  rw [decodeStep_pd_bytes hkind hdecode rfl]
  exact cropCore_bytes hlead htrail rfl hroom

/-- The receive of a packet a peer sent, taken whole (spec 46_sequencer.md R210). -/
theorem receive_pdPacket (t : Bool) {unbounded : Bool} {idle : Nat} (hlog : s.log = [])
    (htrace : nextTrace s = arrivalsFrom idle ds) (hwhole : capturedWhole s.par P unbounded idle ds) :
    receive t P (waitLimit unbounded P) s = .ok
      { s with
        arrivals := s.arrivals.tail
        capDev := ⟨true, []⟩
        cap := ds
        log := ds.take s.par.logMax
        capFull := false
        sym := (lead ++ body ++ trail).map .byte
        pd := ⟨0, 8 * (lead ++ body ++ trail).length, 16 * (lead ++ body ++ trail).length + 3, true⟩
        pay := body.map .valid
        rep := [⟨.dump, 0, body.map .valid⟩]
        out := ⟨.bytes, 0, 0, 0⟩
        seq := ⟨.decoded, s.seq.step⟩ } := by
  have hadmitted := traceAdmitted_arrivalsFrom hwhole.2.2.2.2.2 idle
  have hcapture := capture_whole hwhole
  rw [← htrace] at hadmitted hcapture
  rw [receive_captured (W := waitLimit unbounded P) hadmitted hlog hcapture,
    decodeStep_pdPacket (s := capturedState _ _ s) h hds hlead htrail hsymMax hroom t rfl]
  rfl

end

/-- Settles O40: the capture takes the packet whole, and the decoders read it. -/
theorem rxstepReceivesAPulseDistancePacket : Obligations.RxstepReceivesAPulseDistancePacket := by
  intro s P w t idle lead body trail ds h hds htrace hwhole hlead htrail hsymMax hroom
  have hreceive := receive_pdPacket (s := startStep t s) h hds hlead htrail hsymMax hroom t rfl htrace hwhole
  obtain ⟨hsel, -, hwf⟩ := h
  show (rxStep w t s).toOutcome = _
  rw [rxStep_of_admitted hsel (profileAdmitted_of_wellFormed hwf), hreceive]
  rfl

/-- The transmit-first step with a peer that answers in time with a packet, taken whole (spec 46_sequencer.md R212). -/
theorem txrxStep_pdPacket {s : State} {P : Profile} {lead body trail : List Byte} {ds : List Nat} {idle : Nat}
    (h : hasProfile .pd s P) (hfit : 16 * s.txb.length + 4 ≤ s.par.emitMax)
    (hds : ds = (pdEmission P (lead ++ body ++ trail)).dropLast) (htrace : nextTrace s = arrivalsFrom idle ds)
    (hwhole : capturedWhole s.par P false idle ds) (hlead : lead.length = P.cropLead.toNat)
    (htrail : trail.length = P.cropTrail.toNat) (hsymMax : (lead ++ body ++ trail).length ≤ s.par.symMax)
    (hroom : body.length ≤ s.par.payloadMax) (t : Bool) :
    txrxStep t s = .ok
      { stepReset s with
        cfg := { s.cfg with trace := t }
        arrivals := s.arrivals.tail
        emit := (pdEmission P s.txb).map .bare
        port := ⟨true, false, s.port.sent ++ [(pdEmission P s.txb).map .bare]⟩
        capDev := ⟨true, []⟩
        cap := ds
        log := ds.take s.par.logMax
        sym := (lead ++ body ++ trail).map .byte
        pd := ⟨0, 8 * (lead ++ body ++ trail).length, 16 * (lead ++ body ++ trail).length + 3, true⟩
        pay := body.map .valid
        rep := [⟨.dump, 0, body.map .valid⟩]
        out := ⟨.bytes, 0, 0, 0⟩
        seq := ⟨.decoded, s.seq.step⟩ } := by
  have hreceive : receive t P (some P.replyTimeout) (sentStep t P s) = _ :=
    receive_pdPacket (s := sentStep t P s) (unbounded := false) h hds hlead htrail hsymMax hroom t rfl htrace hwhole
  obtain ⟨hsel, hkind, hwf⟩ := h
  rw [txrxStep_of_fits hsel (profileAdmitted_of_wellFormed hwf) (emissionFits_pd hkind hfit), hreceive,
    ← emissionOf_pd hkind s.par.pulseBit]
  rfl

/-- Settles O45: the packet is sent, and the answer taken whole. -/
theorem txrxstepExchangesPulseDistancePackets : Obligations.TxrxstepExchangesPulseDistancePackets := by
  intro s P t idle lead body trail ds h hfit hds htrace hwhole hlead htrail hsymMax hroom
  exact congrArg Run.toOutcome (txrxStep_pdPacket h hfit hds htrace hwhole hlead htrail hsymMax hroom t)

/- ### A framed packet -/

/-- The piece of a payload byte that a sender stuffs (spec 30_encoding.md R72, R73). -/
def pieceOf (par : EngineParams) (v : Byte) : PayPiece :=
  if v = par.escVal0 then .escaped0 else if v = par.escVal1 then .escaped1 else .plain v

section
variable {par : EngineParams} {P : Profile} {v : Byte}

theorem pieceSymbols_pieceOf : pieceSymbols par (pieceOf par v) = (stuffByte par v).map .byte := by
  rw [pieceOf, stuffByte]
  split
  · rfl
  · split <;> rfl

theorem pieceEntry_pieceOf : pieceEntry par (pieceOf par v) = .valid v := by
  rw [pieceOf]
  split
  next h0 => rw [h0]; rfl
  next =>
    split
    next h1 => rw [h1]; rfl
    next => rfl

theorem pieceLawful_pieceOf (h : carriable par P v) : pieceLawful par P (pieceOf par v) := by
  obtain ⟨hesc, hterm⟩ := h
  rw [pieceOf]
  split
  next => trivial
  next h0 =>
    split
    next => trivial
    next h1 => exact ⟨hesc, fun heq => (hterm heq).elim h0 h1⟩

/-- The framer on a packet a peer framed (spec 43_framer.md R144 to R152). -/
theorem frmRun_packet {bs : List Byte} (hP : framingConditions P = true) (hpar : documentFraming par)
    (hterm : P.term ≠ par.esc) (hbs : ∀ v ∈ bs, carriable par P v) (hroom : bs.length ≤ par.payloadMax) :
    frmRun par P ((P.startSeq ++ bs.flatMap (stuffByte par) ++ [P.term]).map .byte) =
      .ok (frmClosed par (bs.map .valid) (P.startSeq ++ bs.flatMap (stuffByte par) ++ [P.term]).length
        ⟨.clear, [], []⟩) := by
  have hsymbols : (bs.flatMap (stuffByte par)).map .byte = (bs.map (pieceOf par)).flatMap (pieceSymbols par) := by
    rw [List.map_flatMap, List.flatMap_map]
    exact congrArg bs.flatMap (funext fun v => pieceSymbols_pieceOf.symm)
  have hentries : (bs.map (pieceOf par)).map (pieceEntry par) = bs.map .valid := by
    rw [List.map_map]
    exact List.map_congr_left fun v _ => pieceEntry_pieceOf
  have hlawful : ∀ p ∈ bs.map (pieceOf par), pieceLawful par P p :=
    List.forall_mem_map.mpr fun v hv => pieceLawful_pieceOf (hbs v hv)
  have hpayload := frmRest_payload (w := ⟨.clear, [], []⟩) (skipped := []) (rest := endSymbols par P .terminator) hP
    hpar rfl (by simp) hlawful (by simpa using hroom)
  have hend := frmRest_endSymbols (es := bs.map .valid)
    (cur := FrmRegs.clear.cur +
      ([] ++ P.startSeq.map Symbol.byte ++ (bs.map (pieceOf par)).flatMap (pieceSymbols par)).length)
    (w := ⟨.clear, [], []⟩) hterm .terminator (by simpa [endEntries] using hroom)
  rw [hentries] at hpayload
  rw [frmRun_eq_frmRest, List.map_append, List.map_append, hsymbols]
  refine hpayload.trans (hend.trans ?_)
  rw [← hsymbols]
  simp [endEntries, endSymbols, FrmRegs.clear, Nat.add_assoc]

end

/-- A packet's report alone: the outcome is `Bytes` (spec 46_sequencer.md R211). -/
theorem dutyOutcome_of_report {s : State} {r : Report} (hr : isPacketReport r = true) (hrep : s.rep = [r, endReport])
    (hout : s.out = .clear) : dutyOutcome s = ⟨.bytes, 0, 0, 0⟩ := by
  rw [dutyOutcome, if_pos (by simp [hrep, hr]), hout]
  rfl

theorem frameCore_ok {s : State} {P : Profile} {w : FrmWork} (h : frmRun s.par P s.sym = .ok w) :
    frameCore P s = .ok (frmStore w s) := by rw [frameCore, h]

/-- The two decoders under a duty profile (spec 46_sequencer.md R211). -/
theorem decodeStep_duty_ok {s u : State} {P : Profile} {t : Bool} {w : FrmWork} (hkind : P.kind = .duty)
    (h : dutydecCore t P s = .ok u) (hframe : frmRun u.par P u.sym = .ok w) :
    decodeStep t P s = .ok { frmStore w u with out := dutyOutcome (frmStore w u) } := by
  simp only [decodeStep, hkind, h, Run.andThen_ok, frameCore_ok hframe]

/-- The decoders on a framed packet a peer sent (spec 46_sequencer.md R211). -/
theorem decodeStep_dutyPacket {s : State} {P : Profile} {bs bytes : List Byte} (h : hasProfile .duty s P)
    (hread : DutyReadable s.par P) (hpar : documentFraming s.par) (hterm : P.term ≠ s.par.esc)
    (hbs : ∀ v ∈ bs, carriable s.par P v) (hbytes : bytes = P.startSeq ++ bs.flatMap (stuffByte s.par) ++ [P.term])
    (hcap : s.cap = (channelView (dutyEmission false P bytes)).dropLast) (hsymMax : bytes.length ≤ s.par.symMax)
    (hroom : bs.length ≤ s.par.payloadMax) (hout : s.out = .clear) (t : Bool) :
    ∃ dt, decodeStep t P s = .ok
      { frmStore (frmClosed s.par (bs.map .valid) bytes.length ⟨.clear, [], []⟩) (dtStore dt (dtStart t s)) with
        sym := bytes.map .byte
        out := ⟨.bytes, 0, 0, 0⟩ } := by
  have hT := Nat.one_le_iff_ne_zero.mp (tickLen_pos_of_hasProfile h)
  have hdecode := dutydecCore_ok (t := t) hT (dtDecode_channelView hread t bytes hsymMax (.inr hcap))
  have hframe := frmRun_packet (framingConditions_of_hasProfile h) hpar hterm hbs hroom
  rw [← hbytes] at hframe
  obtain ⟨-, hkind, -⟩ := h
  have houtcome (dt : DtWork) : dutyOutcome (frmStore (frmClosed s.par (bs.map .valid) bytes.length ⟨.clear, [], []⟩)
      (dtStore dt (dtStart t s))) = ⟨.bytes, 0, 0, 0⟩ :=
    dutyOutcome_of_report (packetReport_isPacketReport ..) rfl hout
  have hstep := decodeStep_duty_ok hkind hdecode hframe
  rw [houtcome] at hstep
  exact ⟨_, hstep⟩

/-- Settles O41: the capture takes the packet whole, and the decoders and the framer read it. -/
theorem rxstepReceivesAFramedPacket : Obligations.RxstepReceivesAFramedPacket := by
  intro s P w t idle bs bytes ds h hcoder hpar hdoc hpulse hgap hterm hbs hbytes hds htrace hwhole hsymMax hroom
  have hadmitted := traceAdmitted_arrivalsFrom hwhole.2.2.2.2.2 idle
  have hcapture := capture_whole hwhole
  rw [← htrace] at hadmitted hcapture
  have hreceive := receive_captured (s := startStep t s) (t := t) (W := waitLimit w P) hadmitted rfl hcapture
  obtain ⟨dt, hdecode⟩ := decodeStep_dutyPacket (bs := bs) (bytes := bytes)
    (s := capturedState ⟨ds, ds.take s.par.logMax, ⟨false, []⟩⟩ false (startStep t s)) h ⟨hdoc, hpulse, hgap⟩ hpar
    hterm hbs hbytes hds hsymMax hroom rfl t
  have hvalid : decide (.invalid ∈ bs.map PayEntry.valid) = false := by simp
  have hpairLen : s.par.pairLen = 4 := hpar.2.2.2.2.2
  obtain ⟨hsel, -, hwf⟩ := h
  rw [hdecode, Run.andThen_ok] at hreceive
  have hstep := (rxStep_of_admitted hsel (profileAdmitted_of_wellFormed hwf) w t).trans hreceive
  refine ⟨packetReport s.par (bs.map .valid) (decide (.invalid ∈ bs.map PayEntry.valid)), _, ?_,
    congrArg Run.toOutcome hstep, rfl, rfl, rfl, rfl, rfl, rfl, rfl, rfl, rfl, rfl, rfl, rfl, rfl, rfl, rfl⟩
  rw [hvalid]
  exact packetReport_valid hcoder hpairLen bs

end Sys2Proof.Machine
end

section
/-! What an operation leaves: the facts that the statements about final values and the invariants share. First what
every end of a part of an operation meets, then what the decoders, the framer and `CROP` can write, then a capture,
then the receive and the two exchange steps. -/

namespace Sys2Proof.Machine

/- ### Every end of a part of an operation -/

/-- The part ends in a state that meets `ok`, or with an internal fault in one that meets `halted`, or has no next
state. -/
def Run.Ends (ok halted : State → Prop) : Run → Prop
  | .ok s      => ok s
  | .halted s  => halted s
  | .stuck _   => True
  | .refused _ => True

section
variable {ok ok' halted halted' : State → Prop} {r : Run} {k : State → Run} {s : State}

theorem Run.Ends.andThen (h : r.Ends ok halted) (hk : ∀ s, ok s → (k s).Ends ok' halted) :
    (r.andThen k).Ends ok' halted := by
  cases r with
  | ok s => exact hk s h
  | halted s => exact h
  | stuck f => trivial
  | refused x => trivial

theorem Run.Ends.mono (h : r.Ends ok halted) (hok : ∀ s, ok s → ok' s) (hhalted : ∀ s, halted s → halted' s) :
    r.Ends ok' halted' := by
  cases r with
  | ok s => exact hok s h
  | halted s => exact hhalted s h
  | stuck f => trivial
  | refused x => trivial

/-- What both kinds of end meet, the next state meets. -/
theorem Run.Ends.next (h : r.Ends ok ok) (hr : r.toOutcome = .next s) : ok s := by
  rcases Run.toOutcome_eq_next.mp hr with rfl | rfl
  · exact h
  · exact h

theorem Run.Ends.admitting {P : Profile} (h : profileAdmitted P = true → r.Ends ok halted) :
    (admitting P r).Ends ok halted := by
  cases hadm : profileAdmitted P with
  | false => rw [admitting_of_not hadm]; trivial
  | true => rw [admitting_of_admitted hadm]; exact h hadm

theorem Run.Ends.withProfile {k : Profile → Run} (hnone : halted { s with fault := ⟨true, 2⟩ })
    (h : ∀ P, selectedProfile s = some P → (k P).Ends ok halted) : (withProfile s k).Ends ok halted := by
  cases hsel : selectedProfile s with
  | none => rw [withProfile_none hsel]; exact hnone
  | some P => rw [withProfile_some hsel]; exact h P hsel

theorem Run.Ends.withKind {kind : Kind} {k : Profile → Run} (hbad : halted { s with fault := ⟨true, 2⟩ })
    (h : ∀ P, selectedProfile s = some P → P.kind = kind → (k P).Ends ok halted) :
    (withKind kind s k).Ends ok halted := by
  refine .withProfile hbad fun P hsel => ?_
  by_cases hkind : P.kind = kind
  · rw [if_pos hkind]
    exact h P hsel hkind
  · rw [if_neg hkind]
    exact hbad

end

/- ### What the decoders, the framer and `CROP` write -/

/-- `OUT` holds no outcome or one outcome of spec 10_state.md R18. -/
def outLawful (o : OutRegs) : Prop :=
  match o.kind with
  | .noOutcome => o = ⟨.noOutcome, 0, 0, 0⟩
  | .bytes     => o = ⟨.bytes, 0, 0, 0⟩
  | .badPacket => 1 ≤ o.reason.toNat ∧ o.reason.toNat ≤ 10
  | .timedOut  => o = ⟨.timedOut, 1, 0, 0⟩

theorem outcomeLawful_iff (s : State) : outcomeLawful s ↔ outLawful s.out := Iff.rfl

theorem outLawful_outBad (r : BadReason) (position value : Nat) : outLawful (outBad r position value) := by
  show 1 ≤ (badCode r).toNat ∧ (badCode r).toNat ≤ 10
  cases r <;> decide

/-- No byte is in progress (spec 42_duty_decoder.md R130). -/
def dtClean (r : DtRegs) : Prop := r.acc = 0 ∧ r.tib = 0 ∧ r.opened = false

/-- No packet is in progress (spec 43_framer.md R156). -/
def frmClean (r : FrmRegs) : Prop :=
  r.st = .seeking ∧ r.idx = 0 ∧ r.esc = false ∧ r.bad = false ∧ r.abortRun = 0

/-- As far as a cursor over `SYM` can get. -/
def symBound (s : State) : Nat := max s.sym.length s.par.symMax

/-- The outcome's numbers are ones the buffers and profiles give. -/
def outBounded (s : State) (o : OutRegs) : Prop :=
  o.position ≤ max s.cap.length (symBound s) ∧
    (o.value ∈ s.cap ∨ o.value < 2 ^ 16 ∨ ∃ P ∈ s.profiles, o.value = P.packetLengthTimeout)

/-- What `PDDEC`, `DUTYDEC`, `FRAME`, `CROP` and any sequence of them can do to a state: each register group as it was
or lawful, nothing else written. -/
structure Decodes (s r : State) : Prop where
  frame : r =
    { s with
      pd := r.pd, dt := r.dt, frm := r.frm, sym := r.sym, pay := r.pay, rep := r.rep, out := r.out, trace := r.trace
      cfg := ⟨s.cfg.sel, s.cfg.valid, r.cfg.trace⟩, fault := r.fault } := by rfl
  sym   : r.sym = s.sym ∨ r.sym.length ≤ s.par.symMax := by exact .inl rfl
  pay   : r.pay = s.pay ∨ r.pay.length ≤ s.par.payloadMax := by exact .inl rfl
  pd    : r.pd = s.pd ∨ r.pd.nbits ≤ s.cap.length ∧ r.pd.cur ≤ s.cap.length := by exact .inl rfl
  dt    : r.dt = s.dt ∨ r.dt.cur ≤ s.cap.length ∧ (s.par.byteTicks ≤ 9 → r.dt.tib.toNat ≤ 8) := by exact .inl rfl
  frm   : r.frm = s.frm ∨
    r.frm.abortRun.toNat ≤ 2 ∧ r.frm.cur ≤ symBound s ∧ r.frm.mmPos ≤ symBound s := by exact .inl rfl
  out   : r.out = s.out ∨ outLawful r.out ∧ outBounded s r.out := by exact .inl rfl
  fault : r.fault = s.fault ∨ ∃ c, r.fault = ⟨true, faultCode c⟩ := by exact .inl rfl
  calm  : r.fault.v = false → (r.dt = s.dt ∨ dtClean r.dt) ∧ (r.frm = s.frm ∨ frmClean r.frm) := by
    exact fun _ => ⟨.inl rfl, .inl rfl⟩

section
variable {s r u : State}

theorem Decodes.par_eq (h : Decodes s r) : r.par = s.par := by rw [h.frame]

theorem Decodes.cap_eq (h : Decodes s r) : r.cap = s.cap := by rw [h.frame]

theorem Decodes.profiles_eq (h : Decodes s r) : r.profiles = s.profiles := by rw [h.frame]

theorem Decodes.symBound_le (h : Decodes s r) : symBound r ≤ symBound s := by
  rw [symBound, symBound, h.par_eq]
  rcases h.sym with heq | hle
  · rw [heq]
  · exact max_le (hle.trans (le_max_right ..)) (le_max_right ..)

/-- A fault once taken stays. -/
theorem Decodes.unfaulted (h : Decodes s r) (hr : r.fault.v = false) : s.fault.v = false := by
  rcases h.fault with heq | ⟨c, heq⟩
  · rwa [← heq]
  · rw [heq] at hr
    cases hr

theorem Decodes.trans (h : Decodes s r) (h' : Decodes r u) : Decodes s u where
  frame := by
    rw [h'.frame, h.frame]
  sym := h'.sym.elim (fun heq => heq ▸ h.sym) fun hle => .inr (h.par_eq ▸ hle)
  pay := h'.pay.elim (fun heq => heq ▸ h.pay) fun hle => .inr (h.par_eq ▸ hle)
  pd := h'.pd.elim (fun heq => heq ▸ h.pd) fun hle => .inr (h.cap_eq ▸ hle)
  dt := h'.dt.elim (fun heq => heq ▸ h.dt) fun hle => .inr (h.cap_eq ▸ h.par_eq ▸ hle)
  frm := h'.frm.elim (fun heq => heq ▸ h.frm) fun ⟨hrun, hcur, hmm⟩ =>
    .inr ⟨hrun, hcur.trans h.symBound_le, hmm.trans h.symBound_le⟩
  out := h'.out.elim (fun heq => heq ▸ h.out) fun ⟨hlawful, hposition, hvalue⟩ =>
    .inr ⟨hlawful, hposition.trans (h.cap_eq ▸ max_le_max le_rfl h.symBound_le), h.cap_eq ▸ h.profiles_eq ▸ hvalue⟩
  fault := h'.fault.elim (fun heq => heq ▸ h.fault) .inr
  calm hu := by
    obtain ⟨hdt, hfrm⟩ := h'.calm hu
    obtain ⟨hdt', hfrm'⟩ := h.calm (h'.unfaulted hu)
    exact ⟨hdt.elim (fun heq => heq ▸ hdt') .inr, hfrm.elim (fun heq => heq ▸ hfrm') .inr⟩

end

/-- A packet has been judged. -/
def decided (o : OutRegs) : Prop := o.kind = .bytes ∨ o.kind = .badPacket

theorem outLawful_pdOutcome {sym : List Symbol} {o : OutRegs} (h : pdOutcome sym o) : outLawful o ∧ decided o := by
  rcases h with rfl | ⟨r, position, value, rfl, -, -⟩
  · exact ⟨rfl, .inl rfl⟩
  · exact ⟨outLawful_outBad .., .inr rfl⟩

theorem PdLawful.outBounded {symMax : Nat} {sym : List Symbol} {pd : PdRegs} {o : OutRegs} {s : State}
    (h : PdLawful symMax s.cap sym pd o) : outBounded s o :=
  ⟨h.position.trans (le_max_left ..), h.value.imp_right fun hlt => .inl (hlt.trans (by decide))⟩

theorem pddecCore_leaves (P : Profile) (s : State) :
    (pddecCore P s).Ends (fun r => Decodes s r ∧ r.fault = s.fault ∧ decided r.out ∧ r.cfg = s.cfg)
      (fun r => Decodes s r ∧ r.fault.v = true ∧ r.cfg = s.cfg) := by
  obtain ⟨sym, pd, out, hlawful, ⟨hout, hcore⟩ | ⟨rfl, -, -, hcore⟩⟩ := pddecCore_answers s.par.symMax P s.cap
  · obtain ⟨hok, hdecided⟩ := outLawful_pdOutcome hout
    rw [hcore s rfl rfl]
    exact ⟨{
      sym := .inr hlawful.room
      pd := .inr ⟨hlawful.nbits, hlawful.cur⟩
      out := .inr ⟨hok, hlawful.outBounded⟩ }, rfl, hdecided, rfl⟩
  · rw [hcore s rfl rfl]
    exact ⟨{
      sym := .inr hlawful.room
      pd := .inr ⟨hlawful.nbits, hlawful.cur⟩
      out := .inr ⟨rfl, hlawful.outBounded⟩
      fault := .inr ⟨.symOverflow, rfl⟩
      calm := by simp }, rfl, rfl⟩

theorem dutydecCore_leaves (t : Bool) (P : Profile) (s : State) :
    (dutydecCore t P s).Ends (fun r => Decodes s r ∧ r.fault = s.fault ∧ r.out = s.out ∧ r.cfg.trace = t)
      (fun r => Decodes s r ∧ r.fault.v = true ∧ r.cfg.trace = t) := by
  by_cases hT : P.tickLen = 0
  · rw [dutydecCore, if_pos hT]
    exact ⟨{
      sym := .inr (Nat.zero_le _)
      dt := .inr ⟨Nat.zero_le _, fun _ => Nat.zero_le _⟩
      fault := .inr ⟨.div0, rfl⟩
      calm := by simp }, rfl, rfl⟩
  · have hleaves := dtDecode_leaves s.par P t s.cap
    cases hrun : dtDecode s.par P t s.cap (dtBetween [] [] 0) with
    | ok w =>
      rw [hrun] at hleaves
      obtain ⟨hbounded, hregs⟩ := hleaves
      rw [dutydecCore_ok hT hrun]
      exact ⟨{
        sym := .inr hbounded.room
        dt := .inr (by simp [hregs])
        calm := fun _ => ⟨.inr (by simp [dtClean, hregs]), .inl rfl⟩ }, rfl, rfl, rfl⟩
    | error w =>
      rw [hrun] at hleaves
      rw [dutydecCore_error hT hrun]
      exact ⟨{
        sym := .inr hleaves.room
        dt := .inr ⟨hleaves.cur, hleaves.tib⟩
        fault := .inr ⟨.symOverflow, rfl⟩
        calm := by simp }, rfl, rfl⟩

theorem FrmDone.clean {par : EngineParams} {P : Profile} {ss : List Symbol} {w : FrmWork} (h : FrmDone par P ss w) :
    frmClean w.regs := by
  rw [h.regs]
  exact ⟨rfl, rfl, rfl, rfl, rfl⟩

theorem FrmDone.cur {par : EngineParams} {P : Profile} {ss : List Symbol} {w : FrmWork} (h : FrmDone par P ss w) :
    w.regs.cur = ss.length := by rw [h.regs]

theorem frameCore_leaves (P : Profile) (s : State) :
    (frameCore P s).Ends
      (fun r => Decodes s r ∧ r.fault = s.fault ∧ r.out = s.out ∧ r.cfg = s.cfg ∧ r.frm.mmPos ≤ symBound r)
      (fun r => Decodes s r ∧ r.fault.v = true ∧ r.cfg = s.cfg) := by
  have hbound : s.sym.length ≤ symBound s := le_max_left ..
  rcases frmRun_leaves s.par P s.sym with ⟨w, hrun, hdone⟩ | ⟨c, w, hrun, hstopped, -⟩
  · rw [frameCore_ok hrun]
    obtain ⟨-, -, -, -, hzero⟩ := hdone.clean
    have hrun : w.regs.abortRun.toNat ≤ 2 := by rw [hzero]; decide
    exact ⟨{
      pay := .inr hdone.room
      frm := .inr ⟨hrun, hdone.cur.le.trans hbound, hdone.mmPos.trans hbound⟩
      calm := fun _ => ⟨.inl rfl, .inr hdone.clean⟩ }, rfl, rfl, rfl, hdone.mmPos.trans hbound⟩
  · rw [frameCore, hrun]
    exact ⟨{
      pay := .inr hstopped.room
      frm := .inr ⟨hstopped.run, hstopped.cur.trans hbound, hstopped.mmPos.trans hbound⟩
      fault := .inr ⟨c, rfl⟩
      calm := by simp }, rfl, rfl⟩

theorem cropCore_leaves (P : Profile) (s : State) :
    (cropCore P s).Ends (fun r => Decodes s r ∧ r.fault = s.fault ∧ decided r.out ∧ r.cfg = s.cfg)
      (fun r => Decodes s r ∧ r.fault.v = true ∧ r.cfg = s.cfg) := by
  have hlead := P.cropLead.isLt
  have htrail := P.cropTrail.isLt
  rw [cropCore]
  split
  · split
    next hshort =>
      exact ⟨{
        pay := .inr (Nat.zero_le _)
        out := .inr ⟨outLawful_outBad .., (le_max_left ..).trans (le_max_right ..), .inr (.inl (by
          show P.cropLead.toNat + P.cropTrail.toNat < 2 ^ 16
          omega))⟩ }, rfl, .inr rfl, rfl⟩
    next =>
      split
      next =>
        exact ⟨{
          pay := .inr (List.length_take_le ..)
          out := .inr ⟨rfl, Nat.zero_le _, .inr (.inl (Nat.two_pow_pos 16))⟩
          fault := .inr ⟨.payloadOverflow, rfl⟩
          calm := by simp }, rfl, rfl⟩
      next hroom =>
        exact ⟨{
          pay := .inr (Nat.not_lt.mp hroom)
          out := .inr ⟨rfl, Nat.zero_le _, .inr (.inl (Nat.two_pow_pos 16))⟩ }, rfl, .inl rfl, rfl⟩
  · exact ⟨{
      pay := .inr (Nat.zero_le _)
      out := .inr ⟨rfl, Nat.zero_le _, .inr (.inl (Nat.two_pow_pos 16))⟩
      fault := .inr ⟨.badSymbol, rfl⟩
      calm := by simp }, rfl, rfl⟩

/-- The outcome of a duty capture (spec 46_sequencer.md R211). -/
theorem dutyOutcome_leaves {s : State} (hout : s.out = .clear) (hmm : s.frm.mmPos ≤ symBound s) :
    outLawful (dutyOutcome s) ∧ outBounded s (dutyOutcome s) ∧ decided (dutyOutcome s) := by
  have hbytes : { s.out with kind := .bytes } = outBytes := by rw [hout]; rfl
  rw [dutyOutcome, hbytes]
  split
  · exact ⟨rfl, ⟨Nat.zero_le _, .inr (.inl (by decide))⟩, .inl rfl⟩
  · split
    · refine ⟨outLawful_outBad .., ⟨hmm.trans (le_max_right ..), .inr (.inl ?_)⟩, .inr rfl⟩
      exact (BitVec.isLt _).trans (by decide)
    · exact ⟨rfl, ⟨Nat.zero_le _, .inr (.inl (by decide))⟩, .inl rfl⟩

/-- The decoders of a step, on a capture of either kind (spec 46_sequencer.md R211). -/
theorem decodeStep_leaves {t : Bool} {P : Profile} {s : State} (hout : s.out = .clear) (ht : s.cfg.trace = t) :
    (decodeStep t P s).Ends (fun r => Decodes s r ∧ r.fault = s.fault ∧ decided r.out ∧ r.cfg = s.cfg)
      (fun r => Decodes s r ∧ r.fault.v = true ∧ r.cfg = s.cfg) := by
  cases hkind : P.kind with
  | pd =>
    simp only [decodeStep, hkind]
    refine (pddecCore_leaves P s).andThen fun s1 ⟨h1, hfault, hdecided, hcfg⟩ => ?_
    split
    · refine (cropCore_leaves P s1).mono (fun r ⟨h, hfault', hdecided', hcfg'⟩ => ?_) fun r ⟨h, hfault', hcfg'⟩ => ?_
      · exact ⟨h1.trans h, hfault'.trans hfault, hdecided', hcfg'.trans hcfg⟩
      · exact ⟨h1.trans h, hfault', hcfg'.trans hcfg⟩
    · exact ⟨h1, hfault, hdecided, hcfg⟩
  | duty =>
    simp only [decodeStep, hkind]
    have hcfg {r : State} (h : Decodes s r) (htrace : r.cfg.trace = t) : r.cfg = s.cfg := by
      rw [h.frame, htrace, ← ht]
    refine ((dutydecCore_leaves t P s).mono (fun _ => id) fun r ⟨h, hfault, htrace⟩ =>
      ⟨h, hfault, hcfg h htrace⟩).andThen fun s1 ⟨h1, hfault1, hout1, htrace1⟩ => ?_
    have hcfg1 := hcfg h1 htrace1
    refine ((frameCore_leaves P s1).mono (fun _ => id) fun r ⟨h, hfault, hcfg'⟩ =>
      ⟨h1.trans h, hfault, hcfg'.trans hcfg1⟩).andThen fun s2 ⟨h2, hfault2, hout2, hcfg2, hmm⟩ => ?_
    have h12 := h1.trans h2
    obtain ⟨hlawful, hbounded, hdecided⟩ := dutyOutcome_leaves (hout2.trans (hout1.trans hout)) hmm
    have houtcome : Decodes s2 { s2 with out := dutyOutcome s2 } := { out := .inr ⟨hlawful, hbounded⟩ }
    exact ⟨h12.trans houtcome, hfault2.trans hfault1, hdecided, hcfg2.trans hcfg1⟩

/- ### A capture -/

/-- What a capture leaves, `full` saying that it filled `CAP` (spec 46_sequencer.md R205, R208). -/
structure CaptureLeaves (par : EngineParams) (c : Capture) (full : Bool) : Prop where
  log   : c.log = c.cap.take par.logMax
  cap   : ∀ d ∈ c.cap, d < 2 ^ par.durW
  queue : ∀ d ∈ c.dev.queue, d < 2 ^ par.durW
  room  : 1 ≤ par.captureMax → c.cap.length ≤ par.captureMax
  full  : 1 ≤ par.captureMax → (full = true ↔ c.cap.length = par.captureMax)

theorem traceAdmitted_dur {par : EngineParams} {tr : List Arrival} (h : traceAdmitted par tr = true) :
    ∀ a ∈ tr, a.dur < 2 ^ par.durW := by
  rw [traceAdmitted, Bool.and_eq_true, List.all_eq_true] at h
  intro a ha
  simpa [fitsDur] using h.2 a ha

/-- A capture leaves what its end says (spec 46_sequencer.md R205 to R209). -/
theorem capture_leaves {par : EngineParams} {tr : List Arrival} (htrace : traceAdmitted par tr = true) (P : Profile)
    (W : Option Nat) {c : Capture} {e : CaptureEnd} (hcapture : capture par P W tr ⟨[], [], ⟨false, []⟩⟩ = (c, e)) :
    CaptureLeaves par c (e == .captured true) ∧ (e = .nothingReceived → c.cap = []) := by
  have hdur := traceAdmitted_dur htrace
  by_cases hnothing : nothingInTime W tr
  · obtain ⟨dev, hnone, hqueue⟩ := capture_of_nothing (par := par) (P := P) hnothing ⟨[], [], ⟨false, []⟩⟩
    rw [hcapture] at hnone
    cases hnone
    refine ⟨⟨by simp, by simp, fun d hd => ?_, by simp, by simp; omega⟩, fun _ => rfl⟩
    obtain ⟨a, ha, rfl⟩ := hqueue rfl d hd
    exact hdur a ha
  · obtain ⟨a, k, -, htook⟩ := capture_of_something (par := par) (P := P) hnothing
    rw [hcapture] at htook
    have hlen : c.cap.length = k := by
      rw [htook.cap, List.length_map, List.length_take, Nat.min_eq_left htook.leLength]
    refine ⟨⟨htook.log, fun d hd => ?_, fun d hd => ?_, fun hmax => hlen ▸ htook.leMax hmax,
      fun hmax => hlen ▸ beq_iff_eq.trans (htook.full hmax)⟩, fun he => absurd he htook.received⟩
    · rw [htook.cap] at hd
      obtain ⟨b, hb, rfl⟩ := List.mem_map.mp hd
      exact hdur b (List.mem_of_mem_take hb)
    · obtain ⟨b, hb, rfl⟩ := htook.queue d hd
      exact hdur b hb

/- ### A receive -/

/-- A receive that ended: the decoders worked on what was captured, and the step ends in the state its outcome names. -/
def Received (s r : State) : Prop :=
  ∃ c full d, CaptureLeaves s.par c full ∧ Decodes (capturedState c full s) d ∧ d.fault = s.fault ∧ d.cfg = s.cfg ∧
    (decided d.out ∨ d.out = outTimedOut ∧ c.cap = []) ∧ r = endStep d

/-- A receive whose decoders faulted. -/
def ReceiveHalted (s r : State) : Prop :=
  ∃ c full, CaptureLeaves s.par c full ∧ Decodes (capturedState c full s) r ∧ r.fault.v = true ∧ r.cfg = s.cfg

theorem receive_leaves {t : Bool} {P : Profile} {W : Option Nat} {s : State} (hlog : s.log = []) (hout : s.out = .clear)
    (ht : s.cfg.trace = t) (hP : P ∈ s.profiles) : (receive t P W s).Ends (Received s) (ReceiveHalted s) := by
  rcases receive_cases t P W s with ⟨-, hstop⟩ | ⟨-, -, hstop⟩ | ⟨htrace, -, hgo⟩
  · rw [hstop]
    trivial
  · rw [hstop]
    trivial
  · rw [hgo, hlog]
    rcases hcapture : capture s.par P W (nextTrace s) ⟨[], [], ⟨false, []⟩⟩ with ⟨c, e⟩
    obtain ⟨hleaves, hnothing⟩ := capture_leaves htrace P W hcapture
    cases e with
    | nothingReceived =>
      exact ⟨c, _, { capturedState c false s with out := outTimedOut }, hleaves,
        { out := .inr ⟨rfl, Nat.zero_le _, .inr (.inl (Nat.two_pow_pos 16))⟩ }, rfl, rfl, .inr ⟨rfl, hnothing rfl⟩, rfl⟩
    | tooLong =>
      exact ⟨c, _, { capturedState c false s with out := outBad .tooLong c.cap.length P.packetLengthTimeout }, hleaves,
        { out := .inr ⟨outLawful_outBad .., le_max_left .., .inr (.inr ⟨P, hP, rfl⟩)⟩ }, rfl, rfl, .inl (.inr rfl), rfl⟩
    | captured full =>
      have hfull : (CaptureEnd.captured full == .captured true) = full := by cases full <;> rfl
      rw [hfull] at hleaves
      refine ((decodeStep_leaves (s := capturedState c full s) hout ht).mono (fun _ => id)
        fun r ⟨h, hfault, hcfg⟩ => ⟨c, full, hleaves, h, hfault, hcfg⟩).andThen fun d ⟨h, hfault, hdecided, hcfg⟩ => ?_
      exact ⟨c, full, d, hleaves, h, hfault, hcfg, .inl hdecided, rfl⟩

/- ### The exchange steps -/

theorem mem_profiles_of_selected {s : State} {P : Profile} (h : selectedProfile s = some P) : P ∈ s.profiles := by
  cases hvalid : s.cfg.valid with
  | false => simp [selectedProfile, hvalid] at h
  | true => exact List.mem_of_getElem? (by simpa [selectedProfile, hvalid] using h)

/-- How a receive-first step ends (spec 46_sequencer.md R210). -/
theorem rxStep_leaves (w t : Bool) (s : State) :
    (rxStep w t s).Ends (Received (startStep t s))
      (fun r => (∃ c, r = takeFault c (startStep t s)) ∨ ReceiveHalted (startStep t s) r) := by
  refine .withProfile (.inl ⟨.badProfile, rfl⟩) fun P hsel => .admitting fun _ => ?_
  exact (receive_leaves rfl rfl rfl (mem_profiles_of_selected hsel)).mono (fun _ => id) fun _ => .inr

/-- How a transmit-first step ends (spec 46_sequencer.md R212). -/
theorem txrxStep_leaves (t : Bool) (s : State) :
    (txrxStep t s).Ends
      (fun r => ∃ P ∈ s.profiles, emissionFits s.par.emitMax P s.txb ∧ Received (sentStep t P s) r)
      (fun r => (∃ c, r = takeFault c (startStep t s)) ∨
        ∃ P ∈ s.profiles, emissionFits s.par.emitMax P s.txb ∧ ReceiveHalted (sentStep t P s) r) := by
  refine .withProfile (.inl ⟨.badProfile, rfl⟩) fun P hsel => .admitting fun _ => ?_
  have hP : P ∈ s.profiles := mem_profiles_of_selected hsel
  by_cases hfits : emissionFits s.par.emitMax P s.txb
  · rw [modulate_of_fits (s := startStep t s) hfits, Run.andThen_ok]
    exact (receive_leaves (s := sentStep t P s) rfl rfl rfl hP).mono (fun r h => ⟨P, hP, hfits, h⟩)
      fun r h => .inr ⟨P, hP, hfits, h⟩
  · rw [modulate_of_not_fits (s := startStep t s) hfits, Run.andThen_halted]
    exact .inl ⟨.emitOverflow, rfl⟩

/-- The state a step's receive starts from: reset, or reset with a packet sent. -/
def stepStart (t : Bool) (s s0 : State) : Prop :=
  s0 = startStep t s ∨ ∃ P ∈ s.profiles, emissionFits s.par.emitMax P s.txb ∧ s0 = sentStep t P s

/-- How a step of either kind ends without a fault. -/
def StepEnded (t : Bool) (s r : State) : Prop := ∃ s0, stepStart t s s0 ∧ Received s0 r

/-- How a step of either kind faults: before its receive, or in the decoders. -/
def StepHalted (t : Bool) (s r : State) : Prop :=
  (∃ c, r = takeFault c (startStep t s)) ∨ ∃ s0, stepStart t s s0 ∧ ReceiveHalted s0 r

theorem rxStep_ends (w t : Bool) (s : State) : (rxStep w t s).Ends (StepEnded t s) (StepHalted t s) :=
  (rxStep_leaves w t s).mono (fun _ h => ⟨_, .inl rfl, h⟩) fun _ h => h.imp_right fun h => ⟨_, .inl rfl, h⟩

theorem txrxStep_ends (t : Bool) (s : State) : (txrxStep t s).Ends (StepEnded t s) (StepHalted t s) :=
  (txrxStep_leaves t s).mono (fun _ ⟨P, hP, hfits, h⟩ => ⟨_, .inr ⟨P, hP, hfits, rfl⟩, h⟩)
    fun _ h => h.imp_right fun ⟨P, hP, hfits, h⟩ => ⟨_, .inr ⟨P, hP, hfits, rfl⟩, h⟩

end Sys2Proof.Machine
end

section
/-! What every operation keeps: each register and buffer as it was, or within what its table allows. The operations
one by one, then conversations, then one step of the engine; R15, R17 and the invariants of spec 10_state.md from it.
-/

namespace Sys2Proof.Machine

/-- `SEQ.st` is `Idle` or terminal (spec 46_sequencer.md R202). -/
def settled (st : SeqState) : Prop := st ≠ .waitingForStart ∧ st ≠ .receiving

/-- What an operation can do to a state but for `SEQ.st`: each part as it was or lawful. -/
structure KeepsParts (s r : State) : Prop where
  par      : r.par = s.par := by rfl
  profiles : r.profiles = s.profiles := by rfl
  pending  : r.pending = s.pending := by rfl
  cmdList  : r.cmdList = s.cmdList := by rfl
  cap      : r.cap = s.cap ∨ (1 ≤ s.par.captureMax → r.cap.length ≤ s.par.captureMax) := by exact .inl rfl
  sym      : r.sym = s.sym ∨ r.sym.length ≤ s.par.symMax := by exact .inl rfl
  pay      : r.pay = s.pay ∨ r.pay.length ≤ s.par.payloadMax := by exact .inl rfl
  emit     : r.emit = s.emit ∨ r.emit.length ≤ s.par.emitMax := by exact .inl rfl
  log      : r.log = s.log ∨ r.log.length ≤ s.par.logMax := by exact .inl rfl
  txb      : r.txb = s.txb ∨ r.txb.length ≤ s.par.txMax := by exact .inl rfl
  tib      : r.dt = s.dt ∨ (s.par.byteTicks ≤ 9 → r.dt.tib.toNat ≤ 8) := by exact .inl rfl
  run      : r.frm = s.frm ∨ r.frm.abortRun.toNat ≤ 2 := by exact .inl rfl
  mask     : r.rc = s.rc ∨ (s.par.feedback.getLsbD 16 = true → r.rc.mask.getLsbD 16 = false) := by exact .inl rfl
  out      : r.out = s.out ∨ outLawful r.out := by exact .inl rfl
  fault    : r.fault = s.fault ∨ ∃ c, r.fault = ⟨true, faultCode c⟩ := by exact .inl rfl
  paused   : r.capDev.paused = s.capDev.paused ∨ r.capDev.paused = true := by exact .inl rfl
  port     : (r.port.idle = s.port.idle ∧ r.port.line = s.port.line) ∨ (r.port.idle = true ∧ r.port.line = false) := by
    exact .inl ⟨rfl, rfl⟩
  calm     : r.fault.v = false → (r.dt = s.dt ∨ dtClean r.dt) ∧ (r.frm = s.frm ∨ frmClean r.frm) := by
    exact fun _ => ⟨.inl rfl, .inl rfl⟩

/-- What an operation can do to a state: each part as it was or lawful, `SEQ.st` as it was or settled. -/
structure Keeps (s r : State) : Prop extends KeepsParts s r where
  seq : r.fault.v = false → r.seq.st = s.seq.st ∨ settled r.seq.st := by exact fun _ => .inl rfl

section
variable {s r u : State}

theorem KeepsParts.unfaulted (h : KeepsParts s r) (hr : r.fault.v = false) : s.fault.v = false := by
  rcases h.fault with heq | ⟨c, heq⟩
  · rwa [← heq]
  · rw [heq] at hr
    cases hr

theorem KeepsParts.trans (h : KeepsParts s r) (h' : KeepsParts r u) : KeepsParts s u where
  par := h'.par.trans h.par
  profiles := h'.profiles.trans h.profiles
  pending := h'.pending.trans h.pending
  cmdList := h'.cmdList.trans h.cmdList
  cap := h'.cap.elim (fun heq => heq ▸ h.cap) fun hle => .inr (h.par ▸ hle)
  sym := h'.sym.elim (fun heq => heq ▸ h.sym) fun hle => .inr (h.par ▸ hle)
  pay := h'.pay.elim (fun heq => heq ▸ h.pay) fun hle => .inr (h.par ▸ hle)
  emit := h'.emit.elim (fun heq => heq ▸ h.emit) fun hle => .inr (h.par ▸ hle)
  log := h'.log.elim (fun heq => heq ▸ h.log) fun hle => .inr (h.par ▸ hle)
  txb := h'.txb.elim (fun heq => heq ▸ h.txb) fun hle => .inr (h.par ▸ hle)
  tib := h'.tib.elim (fun heq => heq ▸ h.tib) fun hle => .inr (h.par ▸ hle)
  run := h'.run.elim (fun heq => heq ▸ h.run) .inr
  mask := h'.mask.elim (fun heq => heq ▸ h.mask) fun hle => .inr (h.par ▸ hle)
  out := h'.out.elim (fun heq => heq ▸ h.out) .inr
  fault := h'.fault.elim (fun heq => heq ▸ h.fault) .inr
  paused := h'.paused.elim (fun heq => heq ▸ h.paused) .inr
  port := h'.port.elim (fun ⟨hidle, hline⟩ => hidle ▸ hline ▸ h.port) .inr
  calm hu := by
    obtain ⟨hdt, hfrm⟩ := h'.calm hu
    obtain ⟨hdt', hfrm'⟩ := h.calm (h'.unfaulted hu)
    exact ⟨hdt.elim (fun heq => heq ▸ hdt') .inr, hfrm.elim (fun heq => heq ▸ hfrm') .inr⟩

theorem Keeps.trans (h : Keeps s r) (h' : Keeps r u) : Keeps s u where
  toKeepsParts := h.toKeepsParts.trans h'.toKeepsParts
  seq hu := (h'.seq hu).elim (fun heq => heq ▸ h.seq (h'.unfaulted hu)) .inr

theorem keeps_refl (s : State) : Keeps s s where

theorem keeps_takeFault (c : FaultCause) (s : State) : Keeps s (takeFault c s) where
  fault := .inr ⟨c, rfl⟩
  calm := by simp
  seq := by simp

/- ### The units -/

theorem Decodes.keeps (h : Decodes s r) : Keeps s r where
  par := h.par_eq
  profiles := h.profiles_eq
  pending := by rw [h.frame]
  cmdList := by rw [h.frame]
  cap := .inl h.cap_eq
  sym := h.sym
  pay := h.pay
  emit := .inl (by rw [h.frame])
  log := .inl (by rw [h.frame])
  txb := .inl (by rw [h.frame])
  tib := h.dt.imp_right fun ⟨_, htib⟩ => htib
  run := h.frm.imp_right fun ⟨hrun, _⟩ => hrun
  mask := .inl (by rw [h.frame])
  out := h.out.imp_right fun ⟨hlawful, _⟩ => hlawful
  fault := h.fault
  paused := .inl (congrArg (·.capDev.paused) h.frame)
  port := .inl ⟨congrArg (·.port.idle) h.frame, congrArg (·.port.line) h.frame⟩
  calm := h.calm
  seq _ := .inl (congrArg (·.seq.st) h.frame)

/-- A part of an operation keeps what every operation keeps. -/
def Run.Keeping (s : State) (r : Run) : Prop := r.Ends (Keeps s) (Keeps s)

theorem keeps_of_withKind {kind : Kind} {k : Profile → Run}
    (h : ∀ P ∈ s.profiles, profileAdmitted P = true → (k P).Keeping s) :
    (withKind kind s fun P => admitting P (k P)).Keeping s :=
  .withKind (keeps_takeFault .badProfile s) fun P hsel _ =>
    .admitting fun hadm => h P (mem_profiles_of_selected hsel) hadm

theorem pddecCore_keeps (P : Profile) (s : State) : (pddecCore P s).Keeping s :=
  (pddecCore_leaves P s).mono (fun _ ⟨h, _⟩ => h.keeps) fun _ ⟨h, _⟩ => h.keeps

theorem dutydecCore_keeps (t : Bool) (P : Profile) (s : State) : (dutydecCore t P s).Keeping s :=
  (dutydecCore_leaves t P s).mono (fun _ ⟨h, _⟩ => h.keeps) fun _ ⟨h, _⟩ => h.keeps

theorem frameCore_keeps (P : Profile) (s : State) : (frameCore P s).Keeping s :=
  (frameCore_leaves P s).mono (fun _ ⟨h, _⟩ => h.keeps) fun _ ⟨h, _⟩ => h.keeps

theorem cropCore_keeps (P : Profile) (s : State) : (cropCore P s).Keeping s :=
  (cropCore_leaves P s).mono (fun _ ⟨h, _⟩ => h.keeps) fun _ ⟨h, _⟩ => h.keeps

theorem emissionOf_length_le {n : Nat} {P : Profile} {bs : List Byte} (h : emissionFits n P bs) (pulseBit : Bool) :
    (emissionOf pulseBit P bs).length ≤ n := by
  obtain ⟨hpd, hduty⟩ := h
  cases hkind : P.kind with
  | pd =>
    rw [emissionOf_pd hkind, List.length_map, pdEmission_length]
    exact hpd hkind
  | duty =>
    rw [emissionOf_duty hkind]
    exact (dutyEmission_length_le ..).trans (hduty hkind)

theorem keeps_emit {es : List EmitEntry} (h : es.length ≤ s.par.emitMax) : Keeps s { s with emit := es } where
  emit := .inr h

/-- A modulator fills `EMIT`, or faults with it empty. -/
theorem modulate_keeps (P : Profile) (s : State) : (modulate P s).Keeping s := by
  by_cases hfits : emissionFits s.par.emitMax P s.txb
  · rw [modulate_of_fits hfits]
    exact keeps_emit (emissionOf_length_le hfits _)
  · rw [modulate_of_not_fits hfits]
    exact (keeps_emit (Nat.zero_le _)).trans (keeps_takeFault ..)

theorem modpdCore_keeps {P : Profile} (hkind : P.kind = .pd) (s : State) : (modpdCore P s).Keeping s := by
  have h := modulate_keeps P s
  simpa only [modulate, hkind] using h

theorem moddutyCore_keeps {P : Profile} (hkind : P.kind = .duty) (s : State) : (moddutyCore P s).Keeping s := by
  have h := modulate_keeps P s
  simpa only [modulate, hkind] using h

theorem selectProfile_keeps (s : State) : (selectProfile s).Keeping s := by
  rcases Nat.lt_or_ge s.op.a s.profiles.length with hlt | hge
  · rw [selectProfile_of_lt hlt]
    exact {}
  · rw [selectProfile_of_le hge]
    exact keeps_takeFault .badProfile s

/- ### The exchange steps -/

theorem keeps_startStep (t : Bool) (s : State) : Keeps s (startStep t s) where
  cap := .inr fun _ => Nat.zero_le _
  sym := .inr (Nat.zero_le _)
  pay := .inr (Nat.zero_le _)
  emit := .inr (Nat.zero_le _)
  log := .inr (Nat.zero_le _)
  tib := .inr fun _ => Nat.zero_le _
  run := .inr (Nat.zero_le _)
  out := .inr rfl
  calm _ := ⟨.inr ⟨rfl, rfl, rfl⟩, .inr ⟨rfl, rfl, rfl, rfl, rfl⟩⟩
  seq _ := .inr ⟨by simp, by simp⟩

theorem keeps_stepStart {t : Bool} {s0 : State} (h : stepStart t s s0) : Keeps s s0 := by
  rcases h with rfl | ⟨P, -, hfits, rfl⟩
  · exact keeps_startStep t s
  · have hsent : Keeps { startStep t s with emit := emissionOf s.par.pulseBit P s.txb } (sentStep t P s) :=
      { port := .inr ⟨rfl, rfl⟩ }
    exact ((keeps_startStep t s).trans (keeps_emit (emissionOf_length_le hfits _))).trans hsent

theorem keepsParts_capturedState {c : Capture} {full : Bool} (h : CaptureLeaves s.par c full) :
    KeepsParts s (capturedState c full s) where
  cap := .inr h.room
  log := .inr (by
    show c.log.length ≤ _
    rw [h.log]
    exact List.length_take_le ..)
  paused := .inr rfl

theorem settled_terminalState {o : OutRegs} (h : decided o ∨ o = outTimedOut) (st : SeqState) :
    settled (terminalState o.kind st) := by
  rcases h with (h | h) | rfl
  · rw [h]; exact ⟨by simp [terminalState], by simp [terminalState]⟩
  · rw [h]; exact ⟨by simp [terminalState], by simp [terminalState]⟩
  · exact ⟨by simp [terminalState, outTimedOut], by simp [terminalState, outTimedOut]⟩

theorem Received.keeps (h : Received s r) : Keeps s r := by
  obtain ⟨c, full, d, hleaves, hd, -, -, hout, rfl⟩ := h
  have hparts := (keepsParts_capturedState hleaves).trans hd.keeps.toKeepsParts
  exact { hparts with seq := fun _ => .inr (settled_terminalState (hout.imp_right And.left) _) }

theorem ReceiveHalted.keeps (h : ReceiveHalted s r) : Keeps s r := by
  obtain ⟨c, full, hleaves, hr, hfault, -⟩ := h
  have hparts := (keepsParts_capturedState hleaves).trans hr.keeps.toKeepsParts
  exact { hparts with seq := fun hunfaulted => absurd hfault (by simp [hunfaulted]) }

theorem StepEnded.keeps {t : Bool} (h : StepEnded t s r) : Keeps s r := by
  obtain ⟨s0, hstart, hr⟩ := h
  exact (keeps_stepStart hstart).trans hr.keeps

theorem StepHalted.keeps {t : Bool} (h : StepHalted t s r) : Keeps s r := by
  rcases h with ⟨c, rfl⟩ | ⟨s0, hstart, hr⟩
  · exact (keeps_startStep t s).trans (keeps_takeFault ..)
  · exact (keeps_stepStart hstart).trans hr.keeps

theorem rxStep_keeps (w t : Bool) (s : State) : (rxStep w t s).Keeping s :=
  (rxStep_ends w t s).mono (fun _ h => h.keeps) fun _ h => h.keeps

theorem txrxStep_keeps (t : Bool) (s : State) : (txrxStep t s).Keeping s :=
  (txrxStep_ends t s).mono (fun _ h => h.keeps) fun _ h => h.keeps

/- ### Conversations -/

theorem keeps_recordStep (n : Nat) (s : State) : Keeps s (recordStep n s) where

theorem keeps_stopConversation (n m : Nat) (s : State) : Keeps s (stopConversation n m s) where

theorem Run.Keeping.trans {x : Run} (h : Keeps s r) (h' : x.Keeping r) : x.Keeping s :=
  h'.mono (fun _ => h.trans) fun _ => h.trans

theorem Run.Keeping.andThen {x : Run} {k : State → Run} (h : x.Keeping s) (hk : ∀ u, (k u).Keeping u) :
    (x.andThen k).Keeping s :=
  Run.Ends.andThen h fun u hu => (hk u).trans hu

theorem conversePackets_keeps (t : Bool) (total : Nat) (ps : List (List Byte)) (done : Nat) (s : State) :
    (conversePackets t total ps done s).Keeping s := by
  induction ps generalizing done s with
  | nil => exact keeps_refl s
  | cons p ps ih =>
    rw [conversePackets]
    split
    next =>
      have hstep : Keeps s { s with seq := { s.seq with step := count16 done } } := {}
      exact hstep.trans (keeps_takeFault ..)
    next hroom =>
      have hpacket : Keeps s { s with seq := { s.seq with step := count16 done }, txb := p } :=
        { txb := .inr (Nat.not_lt.mp hroom) }
      refine Run.Keeping.trans hpacket ((txrxStep_keeps t _).andThen fun u => ?_)
      split
      · exact Run.Keeping.trans (keeps_recordStep ..) (ih ..)
      · exact (keeps_recordStep ..).trans (keeps_stopConversation ..)

theorem converseSteps_keeps (w t : Bool) (l : CommandList) (s : State) : (converseSteps w t l s).Keeping s := by
  rw [converseSteps]
  split
  · exact { out := .inr rfl }
  · split
    · exact conversePackets_keeps ..
    · refine (rxStep_keeps w t s).andThen fun u => ?_
      split
      · exact Run.Keeping.trans (keeps_recordStep ..) (conversePackets_keeps ..)
      · exact (keeps_recordStep ..).trans (keeps_stopConversation ..)

/- ### Every operation -/

theorem exec_quant_keeps (s : State) : (withProfile s fun P =>
    if P.tickLen = 0 then raiseFault .div0 s
    else admitting P (.ok { s with tq :=
      ⟨(quantize s.par.quantTie s.op.a P.tickLen).1, (quantize s.par.quantTie s.op.a P.tickLen).2⟩ })).Keeping s := by
  refine .withProfile (keeps_takeFault .badProfile s) fun P _ => ?_
  split
  · exact keeps_takeFault ..
  · refine .admitting fun _ => ?_
    exact {}

theorem checkRegs_mask_getLsbD_16 {par : EngineParams} (hfb : par.feedback.getLsbD 16 = true) (data : Half) :
    (checkRegs par data).mask.getLsbD 16 = false := by
  have hmask : ∀ n, (maskAt par n).getLsbD 16 = false := maskAt_getLsbD_16 hfb
  simp only [checkRegs_eq, hmask]

theorem exec_check_keeps (s : State) : exec .check s = .next r → Keeps s r := by
  rintro ⟨⟩
  exact { mask := .inr fun hfb => checkRegs_mask_getLsbD_16 hfb _ }

theorem exec_autofix_keeps (s : State) : exec .autofix s = .next r → Keeps s r := by
  rintro ⟨⟩
  exact { mask := .inr fun _ => by simp }

theorem exec_converse_keeps (w t : Bool) (s : State) :
    ((selectProfile (startConversation t s)).andThen fun u =>
      converseSteps w t s.cmdList (clearConversation u)).Keeping s := by
  have hstart : Keeps s (startConversation t s) := {}
  refine Run.Keeping.trans hstart ((selectProfile_keeps _).andThen fun u => ?_)
  have hclear : Keeps u (clearConversation u) := {}
  exact Run.Keeping.trans hclear (converseSteps_keeps ..)

/-- Every operation keeps what `Keeps` says. -/
theorem exec_keeps {i : Instr} (h : exec i s = .next r) : Keeps s r := by
  cases i with
  | quant => exact (exec_quant_keeps s).next h
  | pddec => exact (keeps_of_withKind fun P _ _ => pddecCore_keeps P s).next h
  | dutydec t =>
    have hkeeps : (withKind .duty s fun P =>
        if P.tickLen = 0 then dutydecCore t P s else admitting P (dutydecCore t P s)).Keeping s :=
      .withKind (keeps_takeFault .badProfile s) fun P _ _ => by
        split
        · exact dutydecCore_keeps t P s
        · exact .admitting fun _ => dutydecCore_keeps t P s
    exact hkeeps.next h
  | frame => exact (keeps_of_withKind fun P _ _ => frameCore_keeps P s).next h
  | crop => exact (keeps_of_withKind fun P _ _ => cropCore_keeps P s).next h
  | check => exact exec_check_keeps s h
  | autofix => exact exec_autofix_keeps s h
  | modpd =>
    have hkeeps : (withKind .pd s fun P => admitting P (modpdCore P s)).Keeping s :=
      .withKind (keeps_takeFault .badProfile s) fun P _ hkind => .admitting fun _ => modpdCore_keeps hkind s
    exact hkeeps.next h
  | modduty =>
    have hkeeps : (withKind .duty s fun P => admitting P (moddutyCore P s)).Keeping s :=
      .withKind (keeps_takeFault .badProfile s) fun P _ hkind => .admitting fun _ => moddutyCore_keeps hkind s
    exact hkeeps.next h
  | rxstep w t => exact (rxStep_keeps w t s).next h
  | txrxstep t => exact (txrxStep_keeps t s).next h
  | converse w t => exact (exec_converse_keeps w t s).next h
  | profsel => exact (selectProfile_keeps s).next h
  | xreset =>
    cases h
    have hreset : Keeps (startStep s.cfg.trace s) { stepReset s with capDev := ⟨true, []⟩ } := { paused := .inr rfl }
    exact (keeps_startStep s.cfg.trace s).trans hreset

end

/-- Settles O60: what `Keeps` says of the configuration. -/
theorem operationsKeepConfiguration : Obligations.OperationsKeepConfiguration := by
  intro i s r h
  have hkeeps := exec_keeps h
  exact ⟨hkeeps.par, hkeeps.profiles, hkeeps.pending, hkeeps.cmdList⟩

/- ### One step of the engine -/

/-- What a host write that fits can do to a state (spec 10_state.md R17, 70_reset_and_hazards.md R264, R270). -/
structure HostWrites (s r : State) : Prop where
  frame    : r = { s with
    op := r.op, cap := r.cap, sym := r.sym, txb := r.txb, cmdList := r.cmdList, profiles := r.profiles } := by rfl
  op       : r.op = s.op ∨ r.op.a < 2 ^ s.par.durW ∧ r.op.b = s.op.b ∨ r.op.a = s.op.a ∧ r.op.b < 2 ^ s.par.durW := by
    exact .inl rfl
  cap      : r.cap = s.cap ∨ r.cap.length ≤ s.par.captureMax ∧ ∀ d ∈ r.cap, d < 2 ^ s.par.durW := by exact .inl rfl
  sym      : r.sym = s.sym ∨ r.sym.length ≤ s.par.symMax := by exact .inl rfl
  txb      : r.txb = s.txb ∨ r.txb.length ≤ s.par.txMax := by exact .inl rfl
  cmdList  : r.cmdList = s.cmdList ∨ r.cmdList.family < 2 ^ s.par.durW := by exact .inl rfl
  profiles : ∀ P ∈ r.profiles, P ∈ s.profiles ∨ profileFits s.par P = true := by exact fun _ => .inl

/-- A host action other than a command word and hardware reset is a write that fits. -/
theorem hostWrites_of_runAction {a : HostAction} {s r : State} (h : runAction a s = .next r)
    (hcommand : ∀ c, a ≠ .command c) (hreset : a ≠ .hardReset) : HostWrites s r := by
  cases a with
  | command c => exact absurd rfl (hcommand c)
  | hardReset => exact absurd rfl hreset
  | setOpA v =>
    obtain ⟨hfits, rfl⟩ := hostWrite_eq_next.mp h
    exact { op := .inr (.inl ⟨fitsDur_iff.mp hfits, rfl⟩) }
  | setOpB v =>
    obtain ⟨hfits, rfl⟩ := hostWrite_eq_next.mp h
    exact { op := .inr (.inr ⟨rfl, fitsDur_iff.mp hfits⟩) }
  | setCap ds =>
    obtain ⟨hfits, rfl⟩ := hostWrite_eq_next.mp h
    exact { cap := .inr (by simpa [fitsDur_iff] using hfits) }
  | setSym ss =>
    obtain ⟨hfits, rfl⟩ := hostWrite_eq_next.mp h
    exact { sym := .inr (of_decide_eq_true hfits) }
  | setTxb bs =>
    obtain ⟨hfits, rfl⟩ := hostWrite_eq_next.mp h
    exact { txb := .inr (of_decide_eq_true hfits) }
  | setCommandList l =>
    obtain ⟨hfits, rfl⟩ := hostWrite_eq_next.mp h
    exact { cmdList := .inr (fitsDur_iff.mp hfits) }
  | loadProfile f row =>
    obtain ⟨hfits, rfl⟩ := hostWrite_eq_next.mp h
    rw [Bool.and_eq_true] at hfits
    refine { profiles := fun P hP => ?_ }
    rcases List.mem_or_eq_of_mem_set hP with hmem | rfl
    · exact .inl hmem
    · exact .inr hfits.2

/-- A property that an illegal word's fault, every operation, every host write and hardware reset keep, every step
keeps. -/
theorem step_preserves {inv : State → Prop} (hpending : ∀ s l, inv s → inv { s with pending := l })
    (hfault : ∀ s, inv s → inv (takeFault .badCmd s))
    (hexec : ∀ s r i, engineWellFormed s.par = true → inv s → exec i s = .next r → inv r)
    (hwrites : ∀ s r, inv s → HostWrites s r → inv r)
    (hreset : ∀ s, inv s → inv (hardReset s)) {s r : State} (hs : inv s)
    (h : step s = .next r) : inv r := by
  obtain ⟨he, ⟨-, rfl⟩ | ⟨a, rest, -, h⟩⟩ := step_cases h
  · exact hs
  have hs' := hpending s rest hs
  by_cases hhard : a = .hardReset
  · subst hhard
    cases h
    exact hreset _ hs'
  by_cases hword : ∃ c, a = .command c
  · obtain ⟨c, rfl⟩ := hword
    rcases runCommand_cases c { s with pending := rest } with ⟨-, hrun⟩ | ⟨-, -, hrun⟩ | ⟨-, i, -, hrun⟩
    · cases hrun.symm.trans h
      exact hs'
    · cases hrun.symm.trans h
      exact hfault _ hs'
    · exact hexec { s with pending := rest } r i he hs' (hrun.symm.trans h)
  · exact hwrites _ _ hs' (hostWrites_of_runAction h (not_exists.mp hword) hhard)

/-- What `engineWellFormed` says of the parameters that bound the buffers and the registers. -/
theorem engineWellFormed_bounds {par : EngineParams} (h : engineWellFormed par = true) :
    1 ≤ par.captureMax ∧ par.byteTicks ≤ 9 ∧ par.feedback.getLsbD 16 = true ∧ 16 ≤ par.durW ∧
      par.captureMax < 2 ^ par.durW ∧ par.symMax < 2 ^ par.durW := by
  simp only [engineWellFormed, Bool.and_eq_true, decide_eq_true_eq, fitsDur_iff] at h
  obtain ⟨⟨⟨⟨⟨⟨⟨⟨hcap, -⟩, -⟩, -⟩, hticks⟩, hfb⟩, hdur⟩, hcapFits⟩, hsymFits⟩ := h
  exact ⟨hcap, hticks, hfb, hdur, hcapFits, hsymFits⟩

theorem KeepsParts.withinCapacity {s r : State} (h : KeepsParts s r) (he : engineWellFormed s.par = true)
    (hs : withinCapacity s) : withinCapacity r := by
  obtain ⟨hcap, hsym, hpay, hemit, hlog, htxb⟩ := hs
  rw [Machine.withinCapacity, h.par]
  exact ⟨h.cap.elim (fun heq => heq ▸ hcap) fun hle => hle (engineWellFormed_bounds he).1,
    h.sym.elim (fun heq => heq ▸ hsym) id, h.pay.elim (fun heq => heq ▸ hpay) id,
    h.emit.elim (fun heq => heq ▸ hemit) id, h.log.elim (fun heq => heq ▸ hlog) id,
    h.txb.elim (fun heq => heq ▸ htxb) id⟩

theorem HostWrites.withinCapacity {s r : State} (h : HostWrites s r) (hs : withinCapacity s) : withinCapacity r := by
  obtain ⟨hcap, hsym, hpay, hemit, hlog, htxb⟩ := hs
  have hpar : r.par = s.par := by rw [h.frame]
  obtain ⟨hpay', hemit', hlog'⟩ : r.pay = s.pay ∧ r.emit = s.emit ∧ r.log = s.log := by
    rw [h.frame]
    exact ⟨rfl, rfl, rfl⟩
  rw [Machine.withinCapacity, hpar, hpay', hemit', hlog']
  exact ⟨h.cap.elim (fun heq => heq ▸ hcap) And.left, h.sym.elim (fun heq => heq ▸ hsym) id, hpay, hemit, hlog,
    h.txb.elim (fun heq => heq ▸ htxb) id⟩

theorem withinCapacity_hardReset (s : State) : withinCapacity (hardReset s) := by simp [withinCapacity]

/-- Settles O54: each buffer is as it was or within its capacity. -/
theorem stepKeepsBuffersWithinCapacity : Obligations.StepKeepsBuffersWithinCapacity := by
  intro s r hs
  exact step_preserves (fun _ _ => id) (fun _ => id)
    (fun _ _ _ he hs h => (exec_keeps h).toKeepsParts.withinCapacity he hs) (fun _ _ hs h => h.withinCapacity hs)
    (fun s _ => withinCapacity_hardReset s) hs

theorem faultCode_lawful (c : FaultCause) : 1 ≤ (faultCode c).toNat ∧ (faultCode c).toNat ≤ 8 := by
  cases c <;> decide

/-- Settles O55: each narrow register is as it was or within its table. -/
theorem stepKeepsRegistersLawful : Obligations.StepKeepsRegistersLawful := by
  intro s r hs
  have hkeeps {s r : State} (he : engineWellFormed s.par = true) (hs : registersLawful s) (h : Keeps s r) :
      registersLawful r := by
    obtain ⟨-, hticks, hfb, -⟩ := engineWellFormed_bounds he
    obtain ⟨htib, hrun, hmask, hcalm, hcode⟩ := hs
    refine ⟨h.tib.elim (fun heq => heq ▸ htib) fun hle => hle hticks, h.run.elim (fun heq => heq ▸ hrun) id,
      h.mask.elim (fun heq => heq ▸ hmask) fun hclear => hclear hfb, ?_⟩
    rcases h.fault with heq | ⟨c, heq⟩
    · rw [heq]
      exact ⟨hcalm, hcode⟩
    · rw [heq]
      exact ⟨by simp, fun _ => faultCode_lawful c⟩
  refine step_preserves (fun _ _ => id) (fun s hs => ?_)
    (fun s r i he hs h => hkeeps he hs (exec_keeps h)) (fun s r hs h => ?_) (fun s _ => ?_) hs
  · obtain ⟨htib, hrun, hmask, -, -⟩ := hs
    exact ⟨htib, hrun, hmask, by simp, fun _ => faultCode_lawful .badCmd⟩
  · rw [h.frame]
    exact hs
  · exact ⟨by simp, by simp [FrmRegs.clear], by simp, by simp, by simp⟩

/-- Settles O56: `OUT` is as it was or holds one lawful outcome. -/
theorem stepKeepsOutcomeLawful : Obligations.StepKeepsOutcomeLawful := by
  intro s r hs
  refine step_preserves (inv := outcomeLawful) (fun _ _ => id) (fun _ => id) (fun s r i _ hs h => ?_)
    (fun s r hs h => ?_) (fun s _ => rfl) hs
  · exact (exec_keeps h).out.elim (fun heq => (outcomeLawful_iff r).mpr (heq ▸ hs)) id
  · rw [h.frame]
    exact hs

/-- Settles O57: the peripherals and the registers of a part in progress are as they were or quiet. -/
theorem stepKeepsTheEngineAtRest : Obligations.StepKeepsTheEngineAtRest := by
  intro s r hs
  refine step_preserves (inv := atRest) (fun _ _ => id) (fun s hs => ?_)
    (fun s r i _ hs h => ?_) (fun s r hs h => ?_) (fun s _ => ?_) hs
  · obtain ⟨hpaused, hidle, hline, -⟩ := hs
    exact ⟨hpaused, hidle, hline, by simp⟩
  · have hkeeps := exec_keeps h
    obtain ⟨hpaused, hidle, hline, hcalm⟩ := hs
    obtain ⟨hidle', hline'⟩ : r.port.idle = true ∧ r.port.line = false :=
      hkeeps.port.elim (fun ⟨hi, hl⟩ => ⟨hi.trans hidle, hl.trans hline⟩) id
    refine ⟨hkeeps.paused.elim (fun heq => heq.trans hpaused) id, hidle', hline', fun hr => ?_⟩
    obtain ⟨hwait, hreceive, hacc, htib, hopen, hfrm⟩ := hcalm (hkeeps.unfaulted hr)
    have hst : settled r.seq.st := (hkeeps.seq hr).elim (fun heq => heq ▸ ⟨hwait, hreceive⟩) id
    obtain ⟨hdt', hfrm'⟩ := hkeeps.calm hr
    have hdt : dtClean r.dt := hdt'.elim (fun heq => heq ▸ ⟨hacc, htib, hopen⟩) id
    exact ⟨hst.1, hst.2, hdt.1, hdt.2.1, hdt.2.2, hfrm'.elim (fun heq => heq ▸ hfrm) id⟩
  · rw [h.frame]
    exact hs
  · exact ⟨rfl, rfl, rfl, fun _ => ⟨by simp, by simp, rfl, rfl, rfl, rfl, rfl, rfl, rfl, rfl⟩⟩

end Sys2Proof.Machine
end

section
/-! Proofs that every `DUR_W`-bit quantity stays within `DUR_W` bits (spec 00_scope.md section 4, 92_eei_decisions.md
D3). The operations one by one over the frames of `Decodes` and `Received`, then conversations and one step of the
engine. -/

namespace Sys2Proof.Machine

/-- `widthsLawful` with a name for each register and buffer. -/
structure Widths (s : State) : Prop where
  profiles : ∀ P ∈ s.profiles, profileFits s.par P = true
  family   : s.cmdList.family < 2 ^ s.par.durW
  nbits    : s.pd.nbits < 2 ^ s.par.durW
  pdCur    : s.pd.cur < 2 ^ s.par.durW
  dtCur    : s.dt.cur < 2 ^ s.par.durW
  ticks    : s.tq.ticks < 2 ^ s.par.durW
  err      : s.tq.err < 2 ^ s.par.durW
  frmCur   : s.frm.cur < 2 ^ s.par.durW
  mmPos    : s.frm.mmPos < 2 ^ s.par.durW
  position : s.out.position < 2 ^ s.par.durW
  value    : s.out.value < 2 ^ s.par.durW
  opA      : s.op.a < 2 ^ s.par.durW
  opB      : s.op.b < 2 ^ s.par.durW
  resVal   : s.res.val < 2 ^ s.par.durW
  cap      : ∀ d ∈ s.cap, d < 2 ^ s.par.durW
  log      : ∀ d ∈ s.log, d < 2 ^ s.par.durW
  queue    : ∀ d ∈ s.capDev.queue, d < 2 ^ s.par.durW
  emit     : ∀ e ∈ s.emit, entryDuration e < 2 ^ s.par.durW

theorem widthsLawful_iff {s : State} : widthsLawful s ↔ Widths s := by
  simp only [widthsLawful, List.forall_mem_cons, List.not_mem_nil, false_imp_iff, implies_true, and_true]
  constructor
  · rintro ⟨h1, h2, ⟨h3, h4, h5, h6, h7, h8, h9, h10, h11, h12, h13, h14⟩, h15, h16, h17, h18⟩
    exact ⟨h1, h2, h3, h4, h5, h6, h7, h8, h9, h10, h11, h12, h13, h14, h15, h16, h17, h18⟩
  · rintro ⟨h1, h2, h3, h4, h5, h6, h7, h8, h9, h10, h11, h12, h13, h14, h15, h16, h17, h18⟩
    exact ⟨h1, h2, ⟨h3, h4, h5, h6, h7, h8, h9, h10, h11, h12, h13, h14⟩, h15, h16, h17, h18⟩

/-- A state whose registers hold its numbers: buffers within capacity, numbers within `DUR_W` bits, on an engine of
parameters the rules are written for. -/
structure Sized (s : State) : Prop where
  engine   : engineWellFormed s.par = true
  capacity : withinCapacity s
  widths   : Widths s

section
variable {s r : State}

theorem Sized.zero_lt (_ : Sized s) : 0 < 2 ^ s.par.durW := Nat.two_pow_pos _

/-- A 16-bit number fits. -/
theorem Sized.half_le (h : Sized s) : 2 ^ 16 ≤ 2 ^ s.par.durW :=
  let ⟨_, _, _, hdur, _⟩ := engineWellFormed_bounds h.engine
  Nat.pow_le_pow_right (by decide) hdur

theorem Sized.cap_lt (h : Sized s) : s.cap.length < 2 ^ s.par.durW :=
  let ⟨_, _, _, _, hcap, _⟩ := engineWellFormed_bounds h.engine
  h.capacity.1.trans_lt hcap

theorem Sized.symBound_lt (h : Sized s) : symBound s < 2 ^ s.par.durW := by
  obtain ⟨-, -, -, -, -, hsymMax⟩ := engineWellFormed_bounds h.engine
  obtain ⟨-, hsym, -⟩ := h.capacity
  exact max_lt (hsym.trans_lt hsymMax) hsymMax

/-- Each number a well-sized profile row holds fits (spec 00_scope.md R8). -/
theorem profileFits_fields {par : EngineParams} {P : Profile} (h : profileFits par P = true) :
    (∀ b ∈ [P.startPulse, P.startGap, P.bitPulse, P.stopPulse, P.stopGap], b.send < 2 ^ par.durW) ∧
    ∀ v ∈ [P.bitGapSendShort, P.bitGapSendLong, P.tickLen, P.packetLengthTimeout, P.dutyPulseSend],
      v < 2 ^ par.durW := by
  simp only [profileFits, boundsFit, Bool.and_eq_true, List.all_cons, fitsDur_iff] at h
  simp only [List.forall_mem_cons, List.not_mem_nil, false_imp_iff, implies_true, and_true]
  tauto

/-- A step from a well-sized state that keeps capacities and widths. -/
theorem Sized.step (h : Sized s) (hk : KeepsParts s r) (hw : Widths r) : Sized r where
  engine := hk.par ▸ h.engine
  capacity := hk.withinCapacity h.engine h.capacity
  widths := hw

theorem Sized.takeFault (h : Sized s) (c : FaultCause) : Sized (takeFault c s) :=
  h.step (keeps_takeFault c s).toKeepsParts { h.widths with }

/- ### The decoders -/

theorem Decodes.widths (h : Decodes s r) (hs : Sized s) : Widths r := by
  have hw := hs.widths
  have hcap := hs.cap_lt
  have hsym := hs.symBound_lt
  rw [h.frame]
  exact
    { hw with
      nbits := h.pd.elim (fun heq => heq ▸ hw.nbits) fun ⟨hle, _⟩ => hle.trans_lt hcap
      pdCur := h.pd.elim (fun heq => heq ▸ hw.pdCur) fun ⟨_, hle⟩ => hle.trans_lt hcap
      dtCur := h.dt.elim (fun heq => heq ▸ hw.dtCur) fun ⟨hle, _⟩ => hle.trans_lt hcap
      frmCur := h.frm.elim (fun heq => heq ▸ hw.frmCur) fun ⟨_, hle, _⟩ => hle.trans_lt hsym
      mmPos := h.frm.elim (fun heq => heq ▸ hw.mmPos) fun ⟨_, _, hle⟩ => hle.trans_lt hsym
      position := h.out.elim (fun heq => heq ▸ hw.position) fun ⟨_, hle, _⟩ => hle.trans_lt (max_lt hcap hsym)
      value := h.out.elim (fun heq => heq ▸ hw.value) fun ⟨_, _, hvalue⟩ => by
        rcases hvalue with hmem | hlt | ⟨P, hP, heq⟩
        · exact hw.cap _ hmem
        · exact hlt.trans_le hs.half_le
        · exact heq ▸ (profileFits_fields (hw.profiles P hP)).2 _ (by simp) }

theorem Decodes.sized (h : Decodes s r) (hs : Sized s) : Sized r := hs.step h.keeps.toKeepsParts (h.widths hs)

/-- A part of an operation, from a well-sized state, ends in one. -/
def Run.Sizing (x : Run) : Prop := x.Ends Sized Sized

theorem sized_of_withKind (hs : Sized s) {kind : Kind} {k : Profile → Run}
    (h : ∀ P ∈ s.profiles, P.kind = kind → (k P).Sizing) :
    (withKind kind s fun P => admitting P (k P)).Sizing :=
  .withKind (hs.takeFault .badProfile) fun P hsel hkind =>
    .admitting fun _ => h P (mem_profiles_of_selected hsel) hkind

theorem pddecCore_sized (hs : Sized s) (P : Profile) : (pddecCore P s).Sizing :=
  (pddecCore_leaves P s).mono (fun _ ⟨h, _⟩ => h.sized hs) fun _ ⟨h, _⟩ => h.sized hs

theorem dutydecCore_sized (hs : Sized s) (t : Bool) (P : Profile) : (dutydecCore t P s).Sizing :=
  (dutydecCore_leaves t P s).mono (fun _ ⟨h, _⟩ => h.sized hs) fun _ ⟨h, _⟩ => h.sized hs

theorem frameCore_sized (hs : Sized s) (P : Profile) : (frameCore P s).Sizing :=
  (frameCore_leaves P s).mono (fun _ ⟨h, _⟩ => h.sized hs) fun _ ⟨h, _⟩ => h.sized hs

theorem cropCore_sized (hs : Sized s) (P : Profile) : (cropCore P s).Sizing :=
  (cropCore_leaves P s).mono (fun _ ⟨h, _⟩ => h.sized hs) fun _ ⟨h, _⟩ => h.sized hs

/- ### The modulators -/

/-- Each slot of a pulse-distance emission is a number of the profile (spec 30_encoding.md R68). -/
theorem pdEmission_lt {par : EngineParams} {P : Profile} (h : profileFits par P = true) (bs : List Byte) :
    ∀ d ∈ pdEmission P bs, d < 2 ^ par.durW := by
  obtain ⟨hbounds, hnumbers⟩ := profileFits_fields h
  simp only [List.forall_mem_cons] at hbounds hnumbers
  obtain ⟨hsp, hsg, hbp, hstp, hstg, -⟩ := hbounds
  obtain ⟨hshort, hlong, -⟩ := hnumbers
  intro d hd
  simp only [pdEmission, pdByte, pdBit, List.mem_append, List.mem_cons, List.mem_flatMap, List.not_mem_nil,
    or_false] at hd
  rcases hd with ((rfl | rfl) | ⟨v, -, k, -, rfl | rfl⟩) | rfl | rfl
  · exact hsp
  · exact hsg
  · exact hbp
  · split
    · exact hlong
    · exact hshort
  · exact hstp
  · exact hstg

/-- Each entry of a tick lasts no longer than the profile says (spec 45_modulator.md R190). -/
theorem dutyTick_lt {par : EngineParams} {P : Profile} (h : profileFits par P = true) (pulse : Bool) :
    ∀ e ∈ dutyTick P pulse, entryDuration e < 2 ^ par.durW := by
  obtain ⟨-, hnumbers⟩ := profileFits_fields h
  simp only [List.forall_mem_cons] at hnumbers
  obtain ⟨-, -, htick, -, hpulse, -⟩ := hnumbers
  have hrest : P.tickLen - P.dutyPulseSend < 2 ^ par.durW := (Nat.sub_le ..).trans_lt htick
  rw [dutyTick]
  split
  · split
    · simpa [entryDuration] using ⟨hpulse, hrest⟩
    · simpa [entryDuration] using hpulse
  · simpa [entryDuration] using htick

theorem dutyEmission_lt {par : EngineParams} {P : Profile} (h : profileFits par P = true) (pulseBit : Bool)
    (bs : List Byte) : ∀ e ∈ dutyEmission pulseBit P bs, entryDuration e < 2 ^ par.durW := by
  intro e he
  simp only [dutyEmission, dutyByte, List.mem_append, List.mem_flatMap, List.mem_flatten] at he
  obtain ⟨v, -, (he | ⟨k, -, he⟩) | ⟨es, hes, he⟩⟩ := he
  · exact dutyTick_lt h _ e he
  · exact dutyTick_lt h _ e he
  · exact dutyTick_lt h _ e (List.eq_of_mem_replicate hes ▸ he)

theorem emissionOf_lt {par : EngineParams} {P : Profile} (h : profileFits par P = true) (pulseBit : Bool)
    (bs : List Byte) : ∀ e ∈ emissionOf pulseBit P bs, entryDuration e < 2 ^ par.durW := by
  cases hkind : P.kind with
  | pd =>
    rw [emissionOf_pd hkind]
    exact List.forall_mem_map.mpr (pdEmission_lt h bs)
  | duty =>
    rw [emissionOf_duty hkind]
    exact dutyEmission_lt h pulseBit bs

theorem sized_emit (hs : Sized s) {es : List EmitEntry} (hlen : es.length ≤ s.par.emitMax)
    (hes : ∀ e ∈ es, entryDuration e < 2 ^ s.par.durW) : Sized { s with emit := es } :=
  hs.step (keeps_emit hlen).toKeepsParts { hs.widths with emit := hes }

theorem modulate_sized (hs : Sized s) {P : Profile} (hP : P ∈ s.profiles) : (modulate P s).Sizing := by
  by_cases hfits : emissionFits s.par.emitMax P s.txb
  · rw [modulate_of_fits hfits]
    exact sized_emit hs (emissionOf_length_le hfits _) (emissionOf_lt (hs.widths.profiles P hP) _ _)
  · rw [modulate_of_not_fits hfits]
    exact (sized_emit hs (Nat.zero_le _) (by simp)).takeFault _

/- ### The exchange steps -/

theorem sized_startStep (hs : Sized s) (t : Bool) : Sized (startStep t s) :=
  hs.step (keeps_startStep t s).toKeepsParts
    { hs.widths with
      nbits := hs.zero_lt, pdCur := hs.zero_lt, dtCur := hs.zero_lt, frmCur := hs.zero_lt, mmPos := hs.zero_lt
      position := hs.zero_lt, value := hs.zero_lt, cap := by simp, log := by simp, emit := by simp }

theorem sized_stepStart (hs : Sized s) {t : Bool} {s0 : State} (h : stepStart t s s0) : Sized s0 := by
  have hkeeps := keeps_stepStart h
  rcases h with rfl | ⟨P, hP, hfits, rfl⟩
  · exact sized_startStep hs t
  · have hstart := sized_startStep hs t
    exact hs.step hkeeps.toKeepsParts { hstart.widths with emit := emissionOf_lt (hs.widths.profiles P hP) _ _ }

theorem sized_capturedState (hs : Sized s) {c : Capture} {full : Bool} (h : CaptureLeaves s.par c full) :
    Sized (capturedState c full s) :=
  hs.step (keepsParts_capturedState h)
    { hs.widths with
      cap := h.cap
      log := fun d (hd : d ∈ c.log) => h.cap d (List.mem_of_mem_take (h.log ▸ hd))
      queue := h.queue }

theorem Received.sized (h : Received s r) (hs : Sized s) : Sized r := by
  have hkeeps := h.keeps
  obtain ⟨c, full, d, hleaves, hd, -, -, -, rfl⟩ := h
  have hd' := hd.sized (sized_capturedState hs hleaves)
  exact hs.step hkeeps.toKeepsParts { hd'.widths with }

theorem ReceiveHalted.sized (h : ReceiveHalted s r) (hs : Sized s) : Sized r := by
  obtain ⟨c, full, hleaves, hr, -⟩ := h
  exact hr.sized (sized_capturedState hs hleaves)

theorem StepEnded.sized {t : Bool} (h : StepEnded t s r) (hs : Sized s) : Sized r := by
  obtain ⟨s0, hstart, hr⟩ := h
  exact hr.sized (sized_stepStart hs hstart)

theorem StepHalted.sized {t : Bool} (h : StepHalted t s r) (hs : Sized s) : Sized r := by
  rcases h with ⟨c, rfl⟩ | ⟨s0, hstart, hr⟩
  · exact (sized_startStep hs t).takeFault c
  · exact hr.sized (sized_stepStart hs hstart)

theorem rxStep_sized (hs : Sized s) (w t : Bool) : (rxStep w t s).Sizing :=
  (rxStep_ends w t s).mono (fun _ h => h.sized hs) fun _ h => h.sized hs

theorem txrxStep_sized (hs : Sized s) (t : Bool) : (txrxStep t s).Sizing :=
  (txrxStep_ends t s).mono (fun _ h => h.sized hs) fun _ h => h.sized hs

/- ### Conversations -/

theorem sized_recordStep (hs : Sized s) (n : Nat) : Sized (recordStep n s) :=
  hs.step (keeps_recordStep n s).toKeepsParts { hs.widths with }

theorem sized_stopConversation (hs : Sized s) (n m : Nat) : Sized (stopConversation n m s) :=
  hs.step (keeps_stopConversation n m s).toKeepsParts { hs.widths with }

theorem conversePackets_sized (t : Bool) (total : Nat) (ps : List (List Byte)) (done : Nat) (hs : Sized s) :
    (conversePackets t total ps done s).Sizing := by
  induction ps generalizing done s with
  | nil => exact hs
  | cons p ps ih =>
    rw [conversePackets]
    split
    next =>
      have hstep : Sized { s with seq := { s.seq with step := count16 done } } := hs.step {} { hs.widths with }
      exact hstep.takeFault _
    next hroom =>
      have hpacket : Sized { s with seq := { s.seq with step := count16 done }, txb := p } :=
        hs.step { txb := .inr (Nat.not_lt.mp hroom) } { hs.widths with }
      refine Run.Ends.andThen (txrxStep_sized hpacket t) fun u hu => ?_
      split
      · exact ih _ (sized_recordStep hu _)
      · exact sized_stopConversation (sized_recordStep hu _) _ _

theorem converseSteps_sized (hs : Sized s) (w t : Bool) (l : CommandList) : (converseSteps w t l s).Sizing := by
  rw [converseSteps]
  split
  · exact hs.step { out := .inr rfl } { hs.widths with position := hs.zero_lt, value := hs.zero_lt }
  · split
    · exact conversePackets_sized _ _ _ _ hs
    · refine Run.Ends.andThen (rxStep_sized hs w t) fun u hu => ?_
      split
      · exact conversePackets_sized _ _ _ _ (sized_recordStep hu _)
      · exact sized_stopConversation (sized_recordStep hu _) _ _

/- ### Every operation -/

theorem selectProfile_sized (hs : Sized s) : (selectProfile s).Sizing := by
  rcases Nat.lt_or_ge s.op.a s.profiles.length with hlt | hge
  · rw [selectProfile_of_lt hlt]
    exact hs.step {} { hs.widths with }
  · rw [selectProfile_of_le hge]
    exact hs.takeFault .badProfile

theorem quant_sized (hs : Sized s) : (withProfile s fun P =>
    if P.tickLen = 0 then raiseFault .div0 s
    else admitting P (.ok { s with tq :=
      ⟨(quantize s.par.quantTie s.op.a P.tickLen).1, (quantize s.par.quantTie s.op.a P.tickLen).2⟩ })).Sizing := by
  refine .withProfile (hs.takeFault .badProfile) fun P hsel => ?_
  split
  · exact hs.takeFault _
  next hT =>
    refine .admitting fun _ => hs.step {} { hs.widths with ticks := ?_, err := ?_ }
    · exact (quantize_ticks_le _ _ (Nat.pos_of_ne_zero hT)).trans_lt hs.widths.opA
    · have htick := (profileFits_fields (hs.widths.profiles P (mem_profiles_of_selected hsel))).2 P.tickLen (by simp)
      exact ((quantize_error_le_half _ _ (Nat.pos_of_ne_zero hT)).trans (Nat.div_le_self ..)).trans_lt htick

theorem resOf_val_lt (hs : Sized s) (d : Option Half) : (resOf d).val < 2 ^ s.par.durW := by
  cases d with
  | none => exact hs.zero_lt
  | some d => exact d.isLt.trans_le hs.half_le

theorem converse_sized (hs : Sized s) (w t : Bool) :
    ((selectProfile (startConversation t s)).andThen fun u =>
      converseSteps w t s.cmdList (clearConversation u)).Sizing := by
  have hstart : Sized (startConversation t s) := hs.step {} { hs.widths with opA := hs.widths.family }
  refine Run.Ends.andThen (selectProfile_sized hstart) fun u hu => ?_
  have hclear : Sized (clearConversation u) := hu.step {} { hu.widths with }
  exact converseSteps_sized hclear ..

/-- Every operation, from a well-sized state, ends in one. -/
theorem exec_sized (hs : Sized s) {i : Instr} (h : exec i s = .next r) : Sized r := by
  have hkeeps := exec_keeps h
  cases i with
  | quant => exact (quant_sized hs).next h
  | pddec => exact (sized_of_withKind hs fun P _ _ => pddecCore_sized hs P).next h
  | dutydec t =>
    have hsized : (withKind .duty s fun P =>
        if P.tickLen = 0 then dutydecCore t P s else admitting P (dutydecCore t P s)).Sizing :=
      .withKind (hs.takeFault .badProfile) fun P _ _ => by
        split
        · exact dutydecCore_sized hs t P
        · exact .admitting fun _ => dutydecCore_sized hs t P
    exact hsized.next h
  | frame => exact (sized_of_withKind hs fun P _ _ => frameCore_sized hs P).next h
  | crop => exact (sized_of_withKind hs fun P _ _ => cropCore_sized hs P).next h
  | check =>
    cases h
    exact hs.step hkeeps.toKeepsParts { hs.widths with resVal := resOf_val_lt hs _ }
  | autofix =>
    cases h
    exact hs.step hkeeps.toKeepsParts { hs.widths with resVal := resOf_val_lt hs _ }
  | modpd =>
    have hmod (P : Profile) (hP : P ∈ s.profiles) (hkind : P.kind = .pd) : (modpdCore P s).Sizing := by
      simpa only [modulate, hkind] using modulate_sized hs hP
    exact (sized_of_withKind hs hmod).next h
  | modduty =>
    have hmod (P : Profile) (hP : P ∈ s.profiles) (hkind : P.kind = .duty) : (moddutyCore P s).Sizing := by
      simpa only [modulate, hkind] using modulate_sized hs hP
    exact (sized_of_withKind hs hmod).next h
  | rxstep w t => exact (rxStep_sized hs w t).next h
  | txrxstep t => exact (txrxStep_sized hs t).next h
  | converse w t => exact (converse_sized hs w t).next h
  | profsel => exact (selectProfile_sized hs).next h
  | xreset =>
    cases h
    have hstart := sized_startStep hs s.cfg.trace
    exact hs.step hkeeps.toKeepsParts { hstart.widths with queue := by simp [capClear] }

theorem HostWrites.widths (h : HostWrites s r) (hs : Widths s) : Widths r := by
  rw [h.frame]
  exact
    { hs with
      profiles := fun P hP => (h.profiles P hP).elim (hs.profiles P) id
      family := h.cmdList.elim (fun heq => heq ▸ hs.family) id
      opA := by
        rcases h.op with heq | ⟨ha, -⟩ | ⟨ha, -⟩
        · exact heq ▸ hs.opA
        · exact ha
        · exact ha ▸ hs.opA
      opB := by
        rcases h.op with heq | ⟨-, hb⟩ | ⟨-, hb⟩
        · exact heq ▸ hs.opB
        · exact hb ▸ hs.opB
        · exact hb
      cap := h.cap.elim (fun heq => heq ▸ hs.cap) And.right }

theorem widths_hardReset (hprofiles : ∀ P ∈ s.profiles, profileFits s.par P = true)
    (hfamily : s.cmdList.family < 2 ^ s.par.durW) : Widths (hardReset s) := by
  have hzero : 0 < 2 ^ s.par.durW := Nat.two_pow_pos _
  exact ⟨hprofiles, hfamily, hzero, hzero, hzero, hzero, hzero, hzero, hzero, hzero, hzero, hzero, hzero, hzero,
    by simp, by simp, by simp, by simp⟩

end

/-- Settles O58: a well-sized state stays well-sized through every operation. -/
theorem stepKeepsWidths : Obligations.StepKeepsWidths := by
  intro s r hcap hw h
  suffices hr : withinCapacity r ∧ Widths r from widthsLawful_iff.mpr hr.2
  refine step_preserves (inv := fun u => withinCapacity u ∧ Widths u) (fun _ _ ⟨hc, hw⟩ => ⟨hc, { hw with }⟩)
    (fun _ ⟨hc, hw⟩ => ⟨hc, { hw with }⟩) (fun u v i he ⟨hc, hw⟩ hexec => ?_)
    (fun _ _ ⟨hc, hw⟩ hwrites => ⟨hwrites.withinCapacity hc, hwrites.widths hw⟩)
    (fun u ⟨_, hw⟩ => ⟨withinCapacity_hardReset u, widths_hardReset hw.profiles hw.family⟩)
    ⟨hcap, widthsLawful_iff.mp hw⟩ h
  have hv := exec_sized ⟨he, hc, hw⟩ hexec
  exact ⟨hv.capacity, hv.widths⟩

/-- Settles O59: every register of the example engine is at its reset value, and its profile rows fit. -/
theorem resetMeetsTheInvariants : Obligations.ResetMeetsTheInvariants := by
  refine ⟨?_, ?_, rfl, ?_, ?_, rfl⟩
  · unfold withinCapacity
    decide
  · unfold registersLawful
    decide
  · unfold atRest
    decide
  · have hzero : 0 < 2 ^ State.reset.par.durW := Nat.two_pow_pos _
    exact widthsLawful_iff.mpr ⟨by decide, hzero, hzero, hzero, hzero, hzero, hzero, hzero, hzero, hzero, hzero, hzero,
      hzero, hzero, List.forall_mem_nil _, List.forall_mem_nil _, List.forall_mem_nil _, List.forall_mem_nil _⟩

end Sys2Proof.Machine
end

section
/-! Proof of R218 (spec 46_sequencer.md): the final values of a step, over what its receive leaves. -/

namespace Sys2Proof.Machine

section
variable {t : Bool} {s s0 r : State}

/-- The registers that neither a packet sent nor a receive writes. -/
structure StepKept (s r : State) : Prop where
  par      : r.par = s.par
  profiles : r.profiles = s.profiles
  cmdList  : r.cmdList = s.cmdList
  results  : r.results = s.results
  conv     : r.conv = s.conv
  step     : r.seq.step = s.seq.step
  txb      : r.txb = s.txb
  op       : r.op = s.op
  res      : r.res = s.res
  tq       : r.tq = s.tq
  rc       : r.rc = s.rc

theorem StepKept.trans {u : State} (h : StepKept s r) (h' : StepKept r u) : StepKept s u where
  par := h'.par.trans h.par
  profiles := h'.profiles.trans h.profiles
  cmdList := h'.cmdList.trans h.cmdList
  results := h'.results.trans h.results
  conv := h'.conv.trans h.conv
  step := h'.step.trans h.step
  txb := h'.txb.trans h.txb
  op := h'.op.trans h.op
  res := h'.res.trans h.res
  tq := h'.tq.trans h.tq
  rc := h'.rc.trans h.rc

theorem stepKept_startStep (t : Bool) (s : State) : StepKept s (startStep t s) :=
  ⟨rfl, rfl, rfl, rfl, rfl, rfl, rfl, rfl, rfl, rfl, rfl⟩

theorem stepKept_sentStep (t : Bool) (P : Profile) (s : State) : StepKept s (sentStep t P s) :=
  ⟨rfl, rfl, rfl, rfl, rfl, rfl, rfl, rfl, rfl, rfl, rfl⟩

theorem stepStart.kept (h : stepStart t s s0) :
    StepKept s s0 ∧ s0.cfg = { s.cfg with trace := t } ∧ s0.fault = s.fault := by
  rcases h with rfl | ⟨P, -, -, rfl⟩
  · exact ⟨stepKept_startStep t s, rfl, rfl⟩
  · exact ⟨stepKept_sentStep t P s, rfl, rfl⟩

/-- What a receive that ended has not written. -/
theorem Received.kept (h : Received s r) :
    StepKept s r ∧ r.cfg = s.cfg ∧ r.emit = s.emit ∧ r.port = s.port ∧ r.fault = s.fault := by
  obtain ⟨c, full, d, -, hd, hfault, hcfg, -, rfl⟩ := h
  have hkept : StepKept s d := by
    rw [hd.frame]
    exact ⟨rfl, rfl, rfl, rfl, rfl, rfl, rfl, rfl, rfl, rfl, rfl⟩
  have hemit : d.emit = s.emit ∧ d.port = s.port := by
    rw [hd.frame]
    exact ⟨rfl, rfl⟩
  exact ⟨{ hkept with }, hcfg, hemit.1, hemit.2, hfault⟩

theorem terminal_outcome {o : OutRegs} {cap : List Nat} (st : SeqState)
    (h : decided o ∨ o = outTimedOut ∧ cap = []) :
    (o.kind = .bytes ∧ terminalState o.kind st = .decoded) ∨
      (o.kind = .badPacket ∧ terminalState o.kind st = .badPacket) ∨
      (o.kind = .timedOut ∧ terminalState o.kind st = .timedOut ∧ cap = []) := by
  rcases h with (h | h) | ⟨rfl, h⟩
  · exact .inl ⟨h, by rw [h]; rfl⟩
  · exact .inr (.inl ⟨h, by rw [h]; rfl⟩)
  · exact .inr (.inr ⟨rfl, rfl, h⟩)

/-- The outcome and the capture that a receive leaves. -/
theorem Received.final (h : Received s r) :
    ((r.out.kind = .bytes ∧ r.seq.st = .decoded) ∨ (r.out.kind = .badPacket ∧ r.seq.st = .badPacket) ∨
      (r.out.kind = .timedOut ∧ r.seq.st = .timedOut ∧ r.cap = [])) ∧
    r.log = r.cap.take s.par.logMax ∧ r.capDev.paused = true ∧
    (1 ≤ s.par.captureMax →
      r.cap.length ≤ s.par.captureMax ∧ (r.capFull = true ↔ r.cap.length = s.par.captureMax)) := by
  obtain ⟨c, full, d, hleaves, hd, -, -, hout, rfl⟩ := h
  obtain ⟨hlog, hfull, hpaused⟩ : d.log = c.log ∧ d.capFull = full ∧ d.capDev.paused = true := by
    rw [hd.frame]
    exact ⟨rfl, rfl, rfl⟩
  have hcap : d.cap = c.cap := hd.cap_eq
  refine ⟨?_, ?_, hpaused, fun hmax => ?_⟩
  · exact terminal_outcome d.seq.st (hcap ▸ hout)
  · exact hlog.trans (hleaves.log.trans (by rw [← hcap]; rfl))
  · show d.cap.length ≤ _ ∧ (d.capFull = true ↔ d.cap.length = _)
    rw [hcap, hfull]
    exact ⟨hleaves.room hmax, hleaves.full hmax⟩

theorem ReceiveHalted.faulted (h : ReceiveHalted s r) : r.fault.v = true :=
  let ⟨_, _, _, _, hfault, _⟩ := h
  hfault

theorem StepHalted.faulted (h : StepHalted t s r) : r.fault.v = true := by
  rcases h with ⟨c, rfl⟩ | ⟨s0, -, hr⟩
  · rfl
  · exact hr.faulted

/-- A packet was sent, and `EMIT` still holds it. -/
theorem txrxStep_sends (h : txrxStep t s = .ok r) :
    ∃ P ∈ s.profiles, emissionFits s.par.emitMax P s.txb ∧ Received (sentStep t P s) r := by
  have hends := txrxStep_leaves t s
  rwa [h] at hends

theorem txrxStep_halted_faulted (h : txrxStep t s = .halted r) : r.fault.v = true := by
  have hends := txrxStep_ends t s
  rw [h] at hends
  exact hends.faulted

theorem rxStep_received {w : Bool} (h : rxStep w t s = .ok r) : Received (startStep t s) r := by
  have hends := rxStep_leaves w t s
  rwa [h] at hends

theorem rxStep_halted_faulted {w : Bool} (h : rxStep w t s = .halted r) : r.fault.v = true := by
  have hends := rxStep_ends w t s
  rw [h] at hends
  exact hends.faulted

/-- The operation's next state without a fault is one that its step ended in. -/
theorem toOutcome_ok {x : Run} (h : x.toOutcome = .next r) (hhalted : x = .halted r → r.fault.v = true)
    (hr : r.fault.v = false) : x = .ok r :=
  (Run.toOutcome_eq_next.mp h).resolve_right fun hx => by
    rw [hhalted hx] at hr
    cases hr

end

/-- Settles O46: the packet sent, then what the receive leaves. -/
theorem stepFinalValues : Obligations.StepFinalValues := by
  intro s r w t i hi _ hexec hr
  obtain ⟨s0, hstart, hreceived, hsent⟩ : ∃ s0, stepStart t s s0 ∧ Received s0 r ∧
      (i = .txrxstep t → r.port.sent = s.port.sent ++ [r.emit]) := by
    rcases hi with rfl | rfl
    · exact ⟨_, .inl rfl, rxStep_received (toOutcome_ok hexec rxStep_halted_faulted hr), nofun⟩
    · obtain ⟨P, hP, hfits, hreceived⟩ := txrxStep_sends (toOutcome_ok hexec txrxStep_halted_faulted hr)
      obtain ⟨-, -, hemit, hport, -⟩ := hreceived.kept
      exact ⟨_, .inr ⟨P, hP, hfits, rfl⟩, hreceived, fun _ => by rw [hemit, hport]; rfl⟩
  obtain ⟨hkept0, hcfg0, -⟩ := hstart.kept
  obtain ⟨hkept', hcfg, -⟩ := hreceived.kept
  obtain ⟨hterminal, hlog, hpaused, hfull⟩ := hreceived.final
  have hkept := hkept0.trans hkept'
  rw [hkept0.par] at hlog hfull
  exact ⟨hterminal, hkept.par ▸ hlog, hpaused, hkept.conv, hkept.step, hkept.txb, hkept.op, hkept.res, hkept.tq,
    hkept.rc, hcfg.trans hcfg0, hfull, hsent⟩

end Sys2Proof.Machine
end

section
/-! A step does not look beside the registers it works on. `beside f` changes what a step only carries along; a step
commutes with it. From it R21 (spec 10_state.md) and R246 (spec 60_exceptions.md), and that a conversation's steps do
not look at the command list. -/

namespace Sys2Proof.Machine

/- ### A state changed at every end of a part of an operation -/

/-- The part with the states it ends in changed by `g`. -/
def Run.map (g : State → State) : Run → Run
  | .ok s      => .ok (g s)
  | .halted s  => .halted (g s)
  | .stuck f   => .stuck f
  | .refused x => .refused x

section
variable {g : State → State} {x : Run} {k k' : State → Run}

@[simp] theorem Run.map_ok (s : State) : (Run.ok s).map g = .ok (g s) := rfl
@[simp] theorem Run.map_halted (s : State) : (Run.halted s).map g = .halted (g s) := rfl

theorem Run.map_andThen (h : ∀ s, k' (g s) = (k s).map g) : (x.map g).andThen k' = (x.andThen k).map g := by
  cases x with
  | ok s => exact h s
  | halted s => rfl
  | stuck f => rfl
  | refused r => rfl

/-- Two parts that are the same after a view end alike up to that view. -/
theorem agreeBy_of_map {view : State → State} {x y : Run} (hview : ∀ s, view (g s) = view s)
    (h : x.map g = y.map g) : agreeBy view x.toOutcome y.toOutcome := by
  have hstates {a b : State} (hab : g a = g b) : view a = view b := by rw [← hview, hab, hview]
  cases x with
  | ok a =>
    cases y with
    | ok b => exact hstates (Run.ok.inj h)
    | _ => cases h
  | halted a =>
    cases y with
    | halted b => exact hstates (Run.halted.inj h)
    | _ => cases h
  | stuck e =>
    cases y with
    | stuck e' => exact Run.stuck.inj h
    | _ => cases h
  | refused e =>
    cases y with
    | refused e' => exact Run.refused.inj h
    | _ => cases h

theorem admitting_map (P : Profile) (x : Run) : (admitting P x).map g = admitting P (x.map g) := by
  cases hadm : profileAdmitted P with
  | false => rw [admitting_of_not hadm, admitting_of_not hadm]; rfl
  | true => rw [admitting_of_admitted hadm, admitting_of_admitted hadm]

end

/- ### What a step only carries along -/

/-- The registers and buffers that the receive of a step does not read, the diagram's trace among them. -/
structure Carried where
  rc      : RcRegs
  tq      : TqRegs
  op      : OpRegs
  res     : ResRegs
  conv    : ConvRegs
  step    : BitVec 16
  port    : EmissionPort
  pending : List HostAction
  cmdList : CommandList
  results : List StepResult
  freeCtr : Nat
  traceOn : Bool
  trace   : List TraceChar

def State.carried (s : State) : Carried where
  rc := s.rc
  tq := s.tq
  op := s.op
  res := s.res
  conv := s.conv
  step := s.seq.step
  port := s.port
  pending := s.pending
  cmdList := s.cmdList
  results := s.results
  freeCtr := s.freeCtr
  traceOn := s.cfg.trace
  trace := s.trace

/-- The state with what a step only carries along changed by `f`. -/
def beside (f : Carried → Carried) (s : State) : State :=
  let c := f s.carried
  { s with
    rc := c.rc, tq := c.tq, op := c.op, res := c.res, conv := c.conv, seq := ⟨s.seq.st, c.step⟩, port := c.port
    pending := c.pending, cmdList := c.cmdList, results := c.results, freeCtr := c.freeCtr
    cfg := ⟨s.cfg.sel, s.cfg.valid, c.traceOn⟩, trace := c.trace }

section
variable (f : Carried → Carried) (s : State) (P : Profile)

theorem pddecCore_beside : pddecCore P (beside f s) = (pddecCore P s).map (beside f) := by
  obtain ⟨sym, pd, out, -, ⟨-, hcore⟩ | ⟨-, -, -, hcore⟩⟩ := pddecCore_answers s.par.symMax P s.cap
  · rw [hcore s rfl rfl, hcore (beside f s) rfl rfl]
    rfl
  · rw [hcore s rfl rfl, hcore (beside f s) rfl rfl]
    rfl

theorem frameCore_beside : frameCore P (beside f s) = (frameCore P s).map (beside f) := by
  show (match frmRun s.par P s.sym with
    | .error (c, w) => raiseFault c (frmStore w (beside f s))
    | .ok w => .ok (frmStore w (beside f s))) = _
  rw [frameCore]
  cases frmRun s.par P s.sym <;> rfl

theorem cropCore_beside : cropCore P (beside f s) = (cropCore P s).map (beside f) := by
  simp only [cropCore, apply_ite (Run.map (beside f))]
  rfl

/-- The carried part follows `DUTYDEC` when the `t` bit goes from `t` to `t'`. -/
def FollowsDutydec (t t' : Bool) : Prop :=
  ∀ P s, dutydecCore t' P (beside f s) = (dutydecCore t P s).map (beside f)

variable {f} {t t' : Bool} (hf : FollowsDutydec f t t')
include hf

theorem decodeStep_beside : decodeStep t' P (beside f s) = (decodeStep t P s).map (beside f) := by
  cases hkind : P.kind with
  | pd =>
    simp only [decodeStep, hkind]
    rw [pddecCore_beside]
    refine Run.map_andThen fun u => ?_
    by_cases hbytes : u.out.kind = .bytes
    · exact (if_pos hbytes).trans ((cropCore_beside f u P).trans (congrArg _ (if_pos hbytes).symm))
    · exact (if_neg hbytes).trans (congrArg (Run.map (beside f)) (if_neg hbytes : _ = Run.ok u).symm)
  | duty =>
    simp only [decodeStep, hkind]
    rw [hf]
    refine Run.map_andThen fun u => ?_
    rw [frameCore_beside]
    exact Run.map_andThen fun v => rfl

theorem afterCapture_beside (r : Capture × CaptureEnd) :
    afterCapture t' P (openReceive (beside f s)) r = (afterCapture t P (openReceive s) r).map (beside f) := by
  obtain ⟨c, e⟩ := r
  cases e with
  | nothingReceived => rfl
  | tooLong => rfl
  | captured full =>
    have hdecode := decodeStep_beside (capturedState c full s) P hf
    have hends (u : State) : Run.ok (endStep (beside f u)) = (Run.ok (endStep u)).map (beside f) := rfl
    exact (congrArg (Run.andThen · fun u => .ok (endStep u)) hdecode).trans (Run.map_andThen hends)

theorem receive_beside (W : Option Nat) : receive t' P W (beside f s) = (receive t P W s).map (beside f) := by
  rcases receive_cases t P W s with ⟨htrace, hgo⟩ | ⟨hnone, hW, hgo⟩ | ⟨htrace, hends, hgo⟩
  · rw [hgo]
    exact receive_of_not_admitted (s := beside f s) htrace
  · subst hW
    rw [hgo]
    exact receive_waitForever (s := beside f s) hnone
  · rw [hgo, ← afterCapture_beside s P hf]
    exact (if_pos htrace).trans (if_neg hends)

omit hf in
theorem withProfile_beside {k k' : Profile → Run} (h : ∀ P, (k P).map (beside f) = k' P) :
    (withProfile s k).map (beside f) = withProfile (beside f s) k' := by
  cases hsel : selectedProfile s with
  | none =>
    rw [withProfile_none hsel, withProfile_none (s := beside f s) hsel]
    rfl
  | some P => rw [withProfile_some hsel, withProfile_some (s := beside f s) hsel, h]

/-- A receive-first step, from its reset on. -/
theorem rxStep_map (w : Bool) :
    (rxStep w t s).map (beside f) = withProfile (beside f (startStep t s)) fun P =>
      admitting P (receive t' P (waitLimit w P) (beside f (startStep t s))) :=
  withProfile_beside _ fun P => by
    rw [admitting_map, receive_beside _ P hf]
    rfl

/-- What a transmit-first step does before its receive (spec 46_sequencer.md R212). -/
def sending (t : Bool) (P : Profile) (s : State) : Run :=
  (modulate P (startStep t s)).andThen fun u => .ok (emitAll u)

omit hf in
theorem sending_andThen (k : State → Run) :
    (sending t P s).andThen k = (modulate P (startStep t s)).andThen fun u => k (emitAll u) := by
  rw [sending]
  cases modulate P (startStep t s) <;> rfl

/-- A transmit-first step, from its reset and its packet on. -/
theorem txrxStep_map :
    (txrxStep t s).map (beside f) = withProfile (beside f (startStep t s)) fun P => admitting P
      (((sending t P s).map (beside f)).andThen (receive t' P (some P.replyTimeout))) :=
  withProfile_beside _ fun P => by
    rw [admitting_map, Run.map_andThen fun u => receive_beside u P hf _, sending_andThen]

end

end Sys2Proof.Machine
end

section
/-! Proofs of R21 (spec 10_state.md), a step's result depends on nothing earlier, and R246 (spec 60_exceptions.md),
diagram mode changes no result. Each is a change of what a step only carries along. -/

namespace Sys2Proof.Machine

/- ### Which changes a step follows -/

section
variable {f : Carried → Carried} {t t' : Bool}

/-- A change that leaves the trace alone follows `DUTYDEC`. -/
theorem followsDutydec_of_trace (t : Bool)
    (h : ∀ (s : State) (on : Bool) (tr : List TraceChar),
      beside f { s with cfg := { s.cfg with trace := on }, trace := tr } =
        { beside f s with cfg := { s.cfg with trace := on }, trace := tr }) : FollowsDutydec f t t := by
  intro P s
  by_cases hT : P.tickLen = 0
  · rw [dutydecCore, if_pos hT, dutydecCore, if_pos hT]
    exact congrArg Run.halted
      (h { s with sym := [], dt := ⟨0, 0, 0, false⟩, fault := ⟨true, faultCode .div0⟩ } t []).symm
  · cases hrun : dtDecode s.par P t s.cap (dtBetween [] [] 0) with
    | ok w =>
      rw [dutydecCore_ok hT hrun, dutydecCore_ok (s := beside f s) hT hrun]
      exact congrArg Run.ok (h { s with sym := w.sym, dt := w.regs } t w.trace).symm
    | error w =>
      rw [dutydecCore_error hT hrun, dutydecCore_error (s := beside f s) hT hrun]
      exact congrArg Run.halted
        (h { s with sym := w.sym, dt := w.regs, fault := ⟨true, faultCode .symOverflow⟩ } t w.trace).symm

theorem modulate_beside (f : Carried → Carried) (P : Profile) (s : State) :
    modulate P (beside f s) = (modulate P s).map (beside f) := by
  by_cases hfits : emissionFits s.par.emitMax P s.txb
  · rw [modulate_of_fits hfits, modulate_of_fits (s := beside f s) hfits]
    rfl
  · rw [modulate_of_not_fits hfits, modulate_of_not_fits (s := beside f s) hfits]
    rfl

/-- The change follows a step: its reset, the packet it sends and its decoders. -/
structure FollowsStep (f : Carried → Carried) (t t' : Bool) : Prop where
  dutydec : FollowsDutydec f t t'
  start   : ∀ s, startStep t' (beside f s) = beside f (startStep t s) := by exact fun _ => rfl
  sent    : ∀ s, emitAll (beside f s) = beside f (emitAll s) := by exact fun _ => rfl

theorem FollowsStep.rxStep (h : FollowsStep f t t') (w : Bool) (s : State) :
    rxStep w t' (beside f s) = (rxStep w t s).map (beside f) := by
  rw [rxStep_map s h.dutydec, ← h.start]
  rfl

theorem FollowsStep.sending (h : FollowsStep f t t') (P : Profile) (s : State) :
    sending t' P (beside f s) = (sending t P s).map (beside f) := by
  rw [Machine.sending, h.start, modulate_beside]
  exact Run.map_andThen fun u => congrArg Run.ok (h.sent u)

theorem FollowsStep.txrxStep (h : FollowsStep f t t') (s : State) :
    txrxStep t' (beside f s) = (txrxStep t s).map (beside f) := by
  rw [txrxStep_map s h.dutydec, ← h.start]
  simp only [← h.sending, sending_andThen]
  rfl

/-- The change follows a conversation: its steps, and what is written between them. -/
structure FollowsConversation (f : Carried → Carried) (t t' : Bool) : Prop extends FollowsStep f t t' where
  next   : ∀ s n p, { beside f s with seq := { (beside f s).seq with step := n }, txb := p } =
    beside f { s with seq := { s.seq with step := n }, txb := p } := by exact fun _ _ _ => rfl
  record : ∀ n s, recordStep n (beside f s) = beside f (recordStep n s)
  stop   : ∀ n m s, stopConversation n m (beside f s) = beside f (stopConversation n m s) := by
    exact fun _ _ _ => rfl

theorem FollowsConversation.conversePackets (h : FollowsConversation f t t') (total : Nat) (ps : List (List Byte))
    (done : Nat) (s : State) :
    conversePackets t' total ps done (beside f s) = (conversePackets t total ps done s).map (beside f) := by
  induction ps generalizing done s with
  | nil => rfl
  | cons p ps ih =>
    simp only [Machine.conversePackets]
    by_cases hlong : s.par.txMax < p.length
    · rw [if_pos hlong]
      exact (if_pos hlong).trans (congrArg (raiseFault .txOverflow) (h.next s (count16 done) s.txb))
    · rw [if_neg hlong]
      refine (if_neg hlong).trans ?_
      rw [h.next, h.txrxStep]
      refine Run.map_andThen fun u => ?_
      by_cases hbytes : u.out.kind = .bytes
      · rw [if_pos hbytes, ← ih, ← h.record]
        exact if_pos hbytes
      · rw [if_neg hbytes, Run.map_ok, ← h.stop, ← h.record]
        exact if_neg hbytes

theorem FollowsConversation.converseSteps (h : FollowsConversation f t t') (w : Bool) (l : CommandList) (s : State) :
    converseSteps w t' l (beside f s) = (converseSteps w t l s).map (beside f) := by
  simp only [Machine.converseSteps]
  split
  · rfl
  split
  · exact h.conversePackets ..
  rw [h.rxStep]
  refine Run.map_andThen fun u => ?_
  by_cases hbytes : u.out.kind = .bytes
  · rw [if_pos hbytes, ← h.conversePackets, ← h.record]
    exact if_pos hbytes
  · rw [if_neg hbytes, Run.map_ok, ← h.stop, ← h.record]
    exact if_neg hbytes

end

/- ### A step's result depends on nothing earlier -/

/-- Nothing carried along but the diagram's trace. -/
def traceOnly (c : Carried) : Carried where
  rc := ⟨0, 0, 0⟩
  tq := ⟨0, 0⟩
  op := ⟨0, 0⟩
  res := ⟨false, 0⟩
  conv := ⟨0, false⟩
  step := 0
  port := ⟨true, false, []⟩
  pending := []
  cmdList := ⟨0, true, []⟩
  results := []
  freeCtr := 0
  traceOn := c.traceOn
  trace := c.trace

theorem followsDutydec_traceOnly (t : Bool) : FollowsDutydec traceOnly t t :=
  followsDutydec_of_trace t fun _ _ _ => rfl

/-- The capture peripheral as reset leaves it. -/
def quieted (s : State) : State := { s with capDev := ⟨true, []⟩ }

section
variable (t : Bool) (s : State) (c : CaptureDev)

/-- A receive empties the capture peripheral before it reads it (spec 46_sequencer.md R204). -/
theorem rxStep_quieted (w : Bool) : (rxStep w t { s with capDev := c }).map quieted = (rxStep w t s).map quieted := by
  cases hsel : selectedProfile s with
  | none =>
    rw [rxStep, withProfile_none (s := startStep t { s with capDev := c }) hsel, rxStep,
      withProfile_none (s := startStep t s) hsel]
    rfl
  | some P =>
    rw [rxStep, withProfile_some (s := startStep t { s with capDev := c }) hsel, rxStep,
      withProfile_some (s := startStep t s) hsel]
    rfl

theorem txrxStep_quieted : (txrxStep t { s with capDev := c }).map quieted = (txrxStep t s).map quieted := by
  cases hsel : selectedProfile s with
  | none =>
    rw [txrxStep, withProfile_none (s := startStep t { s with capDev := c }) hsel, txrxStep,
      withProfile_none (s := startStep t s) hsel]
    rfl
  | some P =>
    rw [txrxStep, withProfile_some (s := startStep t { s with capDev := c }) hsel, txrxStep,
      withProfile_some (s := startStep t s) hsel, admitting_map, admitting_map]
    by_cases hfits : emissionFits s.par.emitMax P s.txb
    · rw [modulate_of_fits (s := startStep t { s with capDev := c }) hfits,
        modulate_of_fits (s := startStep t s) hfits]
      rfl
    · rw [modulate_of_not_fits (s := startStep t { s with capDev := c }) hfits,
        modulate_of_not_fits (s := startStep t s) hfits]
      rfl

/-- What is sent, seen without what is only carried along. -/
theorem sending_traceOnly (P : Profile) : (sending t P s).map (beside traceOnly) =
    (modulate P (beside traceOnly (startStep t s))).andThen fun u => .ok (beside traceOnly (emitAll u)) := by
  rw [modulate_beside]
  exact (Run.map_andThen fun u => rfl).symm

end

/-- Two parts agree on a step's result when they agree without what a step only carries along, the capture peripheral
aside. -/
theorem agreeBy_stepView {x x' y : Run} (hquiet : x'.map quieted = x.map quieted)
    (h : x'.map (beside traceOnly) = y.map (beside traceOnly)) : agreeBy stepView x.toOutcome y.toOutcome := by
  have hswap (z : Run) : z.map (fun s => quieted (beside traceOnly s)) = (z.map quieted).map (beside traceOnly) := by
    cases z <;> rfl
  have hsplit (z : Run) : z.map (fun s => quieted (beside traceOnly s)) = (z.map (beside traceOnly)).map quieted := by
    cases z <;> rfl
  refine agreeBy_of_map (g := fun s => quieted (beside traceOnly s)) (fun _ => rfl) ?_
  rw [hswap, ← hquiet, ← hswap, hsplit, h, ← hsplit]

/-- Settles O47: from its reset on, a step sees two states alike but for what it only carries along. -/
theorem stepsDependOnNothingEarlier : Obligations.StepsDependOnNothingEarlier := by
  intro a b w t i hi hpar hprofiles hsel hvalid hfault htxb harrivals
  have hfollows := followsDutydec_traceOnly t
  have hstart : beside traceOnly (startStep t { a with capDev := b.capDev }) =
      beside traceOnly (startStep t b) := by
    simp only [beside, startStep, stepReset, hpar, hprofiles, hsel, hvalid, hfault, htxb, harrivals]
    rfl
  rcases hi with rfl | rfl
  · refine agreeBy_stepView (rxStep_quieted t a b.capDev w) ?_
    rw [rxStep_map _ hfollows, rxStep_map b hfollows, hstart]
  · refine agreeBy_stepView (txrxStep_quieted t a b.capDev) ?_
    rw [txrxStep_map _ hfollows, txrxStep_map b hfollows, hstart]
    simp only [sending_traceOnly, hstart]

/- ### Diagram mode changes no result -/

/-- Nothing of the diagram's traces. -/
def untraced (c : Carried) : Carried :=
  { c with traceOn := false, trace := [], results := c.results.map fun r => { r with trace := [] } }

theorem withoutTrace_beside (s : State) : withoutTrace (beside untraced s) = withoutTrace s := by
  simp [withoutTrace, beside, untraced, State.carried]

/-- Without its trace `DUTYDEC` does the same with the `t` bit as without. -/
theorem followsDutydec_untraced (t : Bool) : FollowsDutydec untraced t false := by
  intro P s
  by_cases hT : P.tickLen = 0
  · rw [dutydecCore, if_pos hT, dutydecCore, if_pos hT]
    rfl
  · have hforget : dtDecode s.par P false s.cap (dtBetween [] [] 0) =
        forgetRun (dtDecode s.par P t s.cap (dtBetween [] [] 0)) :=
      dtDecode_forget s.par P t (dtBetween [] [] 0) s.cap
    cases hrun : dtDecode s.par P t s.cap (dtBetween [] [] 0) with
    | ok w =>
      rw [hrun] at hforget
      rw [dutydecCore_ok hT hrun, dutydecCore_ok (s := beside untraced s) hT hforget]
      rfl
    | error w =>
      rw [hrun] at hforget
      rw [dutydecCore_error hT hrun, dutydecCore_error (s := beside untraced s) hT hforget]
      rfl

theorem followsConversation_untraced (t : Bool) : FollowsConversation untraced t false where
  dutydec := followsDutydec_untraced t
  record n s := by simp [recordStep, beside, untraced, State.carried]

theorem execDutydec_run (t : Bool) (s : State) : (withKind .duty s fun P =>
    if P.tickLen = 0 then dutydecCore t P s else admitting P (dutydecCore t P s)).map (beside untraced) =
    withKind .duty (beside untraced s) fun P =>
      if P.tickLen = 0 then dutydecCore false P (beside untraced s)
      else admitting P (dutydecCore false P (beside untraced s)) :=
  withProfile_beside _ fun P => by
    by_cases hkind : P.kind = .duty
    · rw [if_pos hkind, if_pos hkind]
      beta_reduce
      rw [followsDutydec_untraced t, ← admitting_map]
      exact apply_ite ..
    · rw [if_neg hkind, if_neg hkind]
      rfl

/-- A conversation without its traces. -/
theorem execConverse_run (w t : Bool) (s : State) :
    ((selectProfile (startConversation t s)).andThen fun u =>
      converseSteps w t s.cmdList (clearConversation u)).map (beside untraced) =
    (selectProfile (startConversation false (beside untraced s))).andThen fun u =>
      converseSteps w false s.cmdList (clearConversation u) := by
  have hselect : selectProfile (startConversation false (beside untraced s)) =
      (selectProfile (startConversation t s)).map (beside untraced) := by
    rcases Nat.lt_or_ge (startConversation t s).op.a s.profiles.length with hlt | hge
    · rw [selectProfile_of_lt (s := startConversation t s) hlt,
        selectProfile_of_lt (s := startConversation false (beside untraced s)) hlt]
      rfl
    · rw [selectProfile_of_le (s := startConversation t s) hge,
        selectProfile_of_le (s := startConversation false (beside untraced s)) hge]
      rfl
  rw [hselect]
  exact (Run.map_andThen fun u =>
    (followsConversation_untraced t).converseSteps w s.cmdList (clearConversation u)).symm

/-- Settles O48: with the traces taken away, each operation with either `t` bit is the one without on a state without
traces. -/
theorem diagramModeChangesNoResult : Obligations.DiagramModeChangesNoResult := by
  intro s w f hf
  have hagree {x : Bool → Run} {y : Run} (h : ∀ t, (x t).map (beside untraced) = y) :
      agreeBy withoutTrace (x true).toOutcome (x false).toOutcome :=
    agreeBy_of_map withoutTrace_beside ((h true).trans (h false).symm)
  simp only [List.mem_cons, List.not_mem_nil, or_false] at hf
  rcases hf with rfl | rfl | rfl | rfl
  · exact hagree fun t => execDutydec_run t s
  · exact hagree fun t => ((followsConversation_untraced t).rxStep w s).symm
  · exact hagree fun t => ((followsConversation_untraced t).txrxStep s).symm
  · exact hagree fun t => execConverse_run w t s

end Sys2Proof.Machine
end

section
/-! Proofs of the statements of spec 46_sequencer.md section 6: a conversation's steps in order, where it stops, and
what it counts. -/

namespace Sys2Proof.Machine

/- ### What a step leaves to the conversation -/

/-- A transmit-first step keeps the conversation's registers and sends once. -/
theorem txrxStep_steps (t : Bool) (s : State) :
    (txrxStep t s).Ends
      (fun v => StepKept s v ∧ v.fault = s.fault ∧ v.port.sent.length = s.port.sent.length + 1)
      (fun v => v.fault.v = true) := by
  refine (txrxStep_leaves t s).mono (fun v ⟨P, _, _, hreceived⟩ => ?_) fun v hhalted => ?_
  · obtain ⟨hkept, -, -, hport, hfault⟩ := hreceived.kept
    refine ⟨(stepKept_sentStep t P s).trans hkept, hfault, ?_⟩
    rw [hport]
    exact List.length_append
  · rcases hhalted with ⟨c, rfl⟩ | ⟨P, -, -, hhalted⟩
    · rfl
    · exact hhalted.faulted

/-- A receive-first step keeps the conversation's registers and sends nothing. -/
theorem rxStep_steps (w t : Bool) (s : State) :
    (rxStep w t s).Ends (fun v => StepKept s v ∧ v.fault = s.fault ∧ v.port = s.port) (fun v => v.fault.v = true) := by
  refine (rxStep_leaves w t s).mono (fun v hreceived => ?_) fun v hhalted => ?_
  · obtain ⟨hkept, -, -, hport, hfault⟩ := hreceived.kept
    exact ⟨(stepKept_startStep t s).trans hkept, hfault, hport⟩
  · rcases hhalted with ⟨c, rfl⟩ | hhalted
    · rfl
    · exact hhalted.faulted

/- ### The packets of a conversation -/

/-- The state in which the step after `done` steps starts, with the packet `p` to send. -/
def packetStart (done : Nat) (p : List Byte) (s : State) : State :=
  { s with seq := { s.seq with step := count16 done }, txb := p }

/-- What a conversation does after a step (spec 46_sequencer.md R214, R216). -/
def afterStep (t : Bool) (total : Nat) (ps : List (List Byte)) (done : Nat) (v : State) : Run :=
  if v.out.kind = .bytes then conversePackets t total ps done (recordStep done v)
  else .ok (stopConversation done total (recordStep done v))

section
variable {t : Bool} {total done : Nat} {p : List Byte} {ps : List (List Byte)} {s : State}

theorem conversePackets_long (h : s.par.txMax < p.length) :
    conversePackets t total (p :: ps) done s =
      .halted { s with seq := { s.seq with step := count16 done }, fault := ⟨true, 7⟩ } := if_pos h

theorem conversePackets_fits (h : p.length ≤ s.par.txMax) :
    conversePackets t total (p :: ps) done s =
      (txrxStep t (packetStart done p s)).andThen (afterStep t total ps (done + 1)) := if_neg (Nat.not_lt.mpr h)

/-- The last packet of a conversation is one more step. -/
theorem conversePackets_last (hfit : p.length ≤ s.par.txMax) (hfault : s.fault.v = false)
    (haborted : s.conv.aborted = false) (hcount : done + 1 < 2 ^ 16) :
    (conversePackets t (done + 1) [p] done s).toOutcome =
      afterLastStep (done + 1) (exec (.txrxstep t) (packetStart done p s)) := by
  rw [conversePackets_fits hfit]
  show _ = afterLastStep (done + 1) (txrxStep t (packetStart done p s)).toOutcome
  have hsteps := txrxStep_steps t (packetStart done p s)
  cases hrun : txrxStep t (packetStart done p s) with
  | ok v =>
    rw [hrun] at hsteps
    obtain ⟨hkept, hv, -⟩ := hsteps
    have hconv : v.conv.aborted = false := by rw [hkept.conv]; exact haborted
    have hcount16 : count16 (done + 1) = BitVec.ofNat 16 (done + 1) := if_pos hcount
    have hnext : afterStep t (done + 1) [] (done + 1) v = .ok (recordStep (done + 1) v) := by
      rw [afterStep]
      split
      · rfl
      · simp [stopConversation, recordStep, hconv]
    have hunfaulted : ¬v.fault.v = true := by rw [hv]; simpa [packetStart] using hfault
    rw [Run.andThen_ok, hnext]
    refine Eq.trans ?_ (if_neg hunfaulted).symm
    simp only [Run.toOutcome, recordStep, hconv, hcount16]
  | halted v =>
    rw [hrun] at hsteps
    exact (if_pos hsteps).symm
  | stuck f => rfl
  | refused x => rfl

end

/-- Something of the conversation was left over (spec 46_sequencer.md R216). -/
def leftOver (s : State) : State := { s with conv := { s.conv with aborted := true } }

/-- More steps asked for change the end of a conversation only when it stopped early. -/
theorem conversePackets_total {t : Bool} {n m : Nat} (hnm : n < m) (ps : List (List Byte)) (done : Nat) (s : State)
    (hle : done + ps.length ≤ n) (hbytes : ps = [] → s.out.kind = .bytes) :
    conversePackets t m ps done s = (conversePackets t n ps done s).andThen fun u =>
      .ok (if u.out.kind = .bytes then u else leftOver u) := by
  induction ps generalizing done s with
  | nil => simp [conversePackets, hbytes rfl]
  | cons p ps ih =>
    rw [List.length_cons] at hle
    rcases Nat.lt_or_ge s.par.txMax p.length with hlong | hfit
    · rw [conversePackets_long hlong, conversePackets_long hlong]
      rfl
    rw [conversePackets_fits hfit, conversePackets_fits hfit]
    cases txrxStep t (packetStart done p s) with
    | ok v =>
      simp only [Run.andThen_ok, afterStep]
      by_cases hv : v.out.kind = .bytes
      · rw [if_pos hv, if_pos hv, ih (done + 1) (recordStep (done + 1) v) (by omega) fun _ => hv]
      · have hmore : decide (done + 1 < m) = true := decide_eq_true (by omega)
        rw [if_neg hv, if_neg hv, Run.andThen_ok]
        refine congrArg Run.ok (Eq.trans ?_ (if_neg hv).symm)
        simp only [stopConversation, leftOver, hmore]
    | halted v => rfl
    | stuck f => rfl
    | refused x => rfl

/-- A conversation with more packets is the one with fewer, then the others if every step ended in `Bytes`. -/
theorem conversePackets_more {t : Bool} {n m : Nat} (hnm : n < m) (ps qs : List (List Byte)) (done : Nat) (s : State)
    (hn : done + ps.length = n) (hbytes : ps = [] → s.out.kind = .bytes) :
    conversePackets t m (ps ++ qs) done s = (conversePackets t n ps done s).andThen fun u =>
      if u.out.kind = .bytes then conversePackets t m qs n u else .ok (leftOver u) := by
  rw [conversePackets_append t m ps qs done s hbytes, conversePackets_total hnm ps done s hn.le hbytes, hn]
  cases conversePackets t n ps done s with
  | ok u =>
    by_cases hu : u.out.kind = .bytes
    · simp only [Run.andThen_ok, if_pos hu]
    · have hleft : ¬(leftOver u).out.kind = .bytes := hu
      simp only [Run.andThen_ok, if_neg hu, if_neg hleft]
  | halted u => rfl
  | stuck f => rfl
  | refused x => rfl

theorem converseSteps_transmitFirst (w t : Bool) (f : Nat) {ps : List (List Byte)} (hps : ps ≠ []) (s : State) :
    converseSteps w t ⟨f, true, ps⟩ s = conversePackets t ps.length ps 0 s := by
  have hlen : ¬conversationLength ⟨f, true, ps⟩ = 0 := by simpa [conversationLength] using hps
  exact (if_neg hlen).trans (if_pos rfl)

/-- The steps of a conversation with more packets. -/
theorem converseSteps_more (w t : Bool) {f : Nat} {i : Bool} {ps qs : List (List Byte)} (hps : ps ≠ [] ∨ i = false)
    (hqs : qs ≠ []) (s : State) :
    converseSteps w t ⟨f, i, ps ++ qs⟩ s = (converseSteps w t ⟨f, i, ps⟩ s).andThen fun u =>
      if u.out.kind = .bytes then
        conversePackets t (conversationLength ⟨f, i, ps ++ qs⟩) qs (conversationLength ⟨f, i, ps⟩) u
      else .ok (leftOver u) := by
  have hlen : 0 < qs.length := List.length_pos_of_ne_nil hqs
  cases i with
  | true =>
    have hps : ps ≠ [] := hps.resolve_right (by simp)
    rw [converseSteps_transmitFirst w t f hps, converseSteps_transmitFirst w t f (by simp [hps])]
    exact conversePackets_more (by rw [List.length_append]; omega) ps qs 0 s (Nat.zero_add _) fun h => absurd h hps
  | false =>
    rw [converseSteps_receiveFirst, converseSteps_receiveFirst]
    cases rxStep w t s with
    | ok v =>
      simp only [Run.andThen_ok]
      by_cases hv : v.out.kind = .bytes
      · rw [if_pos hv, if_pos hv]
        exact conversePackets_more (by rw [List.length_append]; omega) ps qs 1 _ (Nat.add_comm ..) fun _ => hv
      · have hmore : decide (1 < (ps ++ qs).length + 1) = true :=
          decide_eq_true (by rw [List.length_append]; omega)
        rw [if_neg hv, if_neg hv, Run.andThen_ok]
        refine Eq.trans ?_ (if_neg hv).symm
        simp only [stopConversation, leftOver, hmore]
    | halted v => rfl
    | stuck f => rfl
    | refused x => rfl

/- ### What a conversation counts -/

/-- The results handed out and the counter agree: every step before the last ended in `Bytes`, and the last one in what
`OUT` holds (spec 46_sequencer.md R216). -/
structure Recorded (s : State) : Prop where
  done    : s.conv.done = count16 s.results.length
  results : ∀ j x, s.results[j]? = some x →
    (j + 1 < s.results.length → x.out.kind = .bytes) ∧ (j + 1 = s.results.length → x.out = s.out)

/-- A conversation that began in `s`, when it asks for `total` steps, `opening` of them a receive. -/
structure Talked (opening total : Nat) (s r : State) : Prop where
  recorded : Recorded r
  fault    : r.fault = s.fault
  le       : r.results.length ≤ total
  aborted  : r.conv.aborted = decide (r.results.length < total)
  left     : r.results.length < total → r.results ≠ [] ∧ r.out.kind ≠ .bytes
  sent     : r.port.sent.length + opening = s.port.sent.length + r.results.length

theorem count16_toNat {n : Nat} (h : n < 2 ^ 16) : (count16 n).toNat = n := by
  rw [count16, if_pos h, BitVec.toNat_ofNat, Nat.mod_eq_of_lt h]

section
variable {opening n total : Nat} {s u v r : State}

theorem Recorded.record (h : Recorded u) (hgo : u.results = [] ∨ u.out.kind = .bytes) (hv : v.results = u.results) :
    Recorded (recordStep (u.results.length + 1) v) := by
  have hlen : (recordStep (u.results.length + 1) v).results.length = u.results.length + 1 := by
    simp [recordStep, hv]
  refine ⟨by rw [hlen]; rfl, fun j x hx => ?_⟩
  have hx' : (u.results ++ [⟨v.out, v.rep, v.trace⟩])[j]? = some x := hv ▸ hx
  rw [hlen]
  rcases Nat.lt_trichotomy j u.results.length with hj | rfl | hj
  · rw [List.getElem?_append_left hj] at hx'
    obtain ⟨hbytes, hlast⟩ := h.results j x hx'
    refine ⟨fun _ => ?_, fun hend => absurd hend (by omega)⟩
    rcases Nat.lt_or_eq_of_le (Nat.succ_le_of_lt hj) with hlt | heq
    · exact hbytes hlt
    · have hne : u.results ≠ [] := by rintro hnil; simp [hnil] at hj
      rw [hlast heq]
      exact hgo.resolve_left hne
  · rw [List.getElem?_concat_length, Option.some.injEq] at hx'
    subst hx'
    exact ⟨fun hlt => absurd hlt (by omega), fun _ => rfl⟩
  · rw [List.getElem?_eq_none (by simp; omega)] at hx'
    cases hx'

/-- One more step, after steps that all ended in `Bytes`. -/
theorem Talked.record (h : Talked opening n s u) (hn : u.results.length = n)
    (hgo : u.results = [] ∨ u.out.kind = .bytes) (hresults : v.results = u.results) (hconv : v.conv = u.conv)
    (hfault : v.fault = u.fault) {opening' : Nat}
    (hsent : v.port.sent.length + opening' = s.port.sent.length + (n + 1)) :
    Talked opening' (n + 1) s (recordStep (n + 1) v) := by
  subst hn
  have hlen : (recordStep (u.results.length + 1) v).results.length = u.results.length + 1 := by
    simp [recordStep, hresults]
  refine ⟨h.recorded.record hgo hresults, hfault.trans h.fault, hlen.le, ?_, fun hlt => absurd hlt (by omega), ?_⟩
  · rw [hlen]
    simp [hconv, h.aborted]
  · rw [hlen]
    exact hsent

/-- A conversation that stops early. -/
theorem Talked.stop (h : Talked opening n s u) (hn : u.results.length = n) (hpos : 0 < n) (hle : n ≤ total)
    (hout : u.out.kind ≠ .bytes) : Talked opening total s (stopConversation n total u) := by
  subst hn
  exact ⟨⟨h.recorded.done, h.recorded.results⟩, h.fault, hle, rfl, fun _ => ⟨List.length_pos_iff.mp hpos, hout⟩, h.sent⟩

theorem Talked.length_of_bytes (h : Talked opening total s u) (hout : u.out.kind = .bytes) :
    u.results.length = total := by
  by_contra hne
  obtain ⟨-, hnot⟩ := h.left (Nat.lt_of_le_of_ne h.le hne)
  exact hnot hout

theorem conversePackets_talked {t : Bool} (ps : List (List Byte)) (n : Nat) (u : State) (h : Talked opening n s u)
    (hn : u.results.length = n) (hgo : u.results = [] ∨ u.out.kind = .bytes) :
    (conversePackets t (n + ps.length) ps n u).Ends (Talked opening (n + ps.length) s) (fun v => v.fault.v = true) := by
  induction ps generalizing n u with
  | nil => exact h
  | cons p ps ih =>
    rcases Nat.lt_or_ge u.par.txMax p.length with hlong | hfit
    · rw [conversePackets_long hlong]
      rfl
    rw [conversePackets_fits hfit]
    refine (txrxStep_steps t (packetStart n p u)).andThen fun v ⟨hkept, hfault, hsent⟩ => ?_
    have hsent' : v.port.sent.length + opening = s.port.sent.length + (n + 1) := by
      have hbefore : u.port.sent.length + opening = s.port.sent.length + u.results.length := h.sent
      have hone : v.port.sent.length = u.port.sent.length + 1 := hsent
      omega
    have hv : Talked opening (n + 1) s (recordStep (n + 1) v) :=
      h.record hn hgo hkept.results hkept.conv hfault hsent'
    have hlen : (recordStep (n + 1) v).results.length = n + 1 := by
      simp [recordStep, hkept.results, packetStart, hn]
    have htotal : n + (p :: ps).length = n + 1 + ps.length := by rw [List.length_cons]; omega
    rw [htotal, afterStep]
    split
    next hbytes => exact ih (n + 1) _ hv hlen (.inr hbytes)
    next hbytes => exact hv.stop hlen (Nat.succ_pos n) (by omega) hbytes

/-- The number of receives that open a conversation. -/
def openings (l : CommandList) : Nat := if l.initiator then 0 else 1

/-- A conversation that ends without a fault counts its steps, and stops early only after an outcome that is not
`Bytes` (spec 46_sequencer.md R214 to R216). -/
theorem converseSteps_talked (w t : Bool) (l : CommandList) (hconv : s.conv = ⟨0, false⟩) (hresults : s.results = []) :
    (converseSteps w t l s).Ends (Talked (openings l) (conversationLength l) s) (fun v => v.fault.v = true) := by
  have hstart : Talked 0 0 s s := by
    refine ⟨⟨by rw [hconv, hresults]; rfl, by simp [hresults]⟩, rfl, ?_, ?_, ?_, ?_⟩ <;> simp [hconv, hresults]
  have hlen : s.results.length = 0 := by rw [hresults]; rfl
  obtain ⟨f, i, ps⟩ := l
  cases i with
  | true =>
    by_cases hps : ps = []
    · subst hps
      exact ⟨⟨hstart.recorded.done, by simp [hresults, noSteps]⟩, rfl, hstart.le, hstart.aborted,
        fun hlt => absurd hlt (by simp [conversationLength]), hstart.sent⟩
    · rw [converseSteps_transmitFirst w t f hps]
      have htalked := conversePackets_talked (t := t) ps 0 s hstart hlen (.inl hresults)
      rw [Nat.zero_add] at htalked
      exact htalked
  | false =>
    rw [converseSteps_receiveFirst]
    refine (rxStep_steps w t s).andThen fun v ⟨hkept, hfault, hport⟩ => ?_
    have hv : Talked 1 1 s (recordStep 1 v) :=
      hstart.record hlen (.inl hresults) hkept.results hkept.conv hfault (by rw [hport])
    have hlen1 : (recordStep 1 v).results.length = 1 := by simp [recordStep, hkept.results, hresults]
    split
    next hbytes =>
      have htalked := conversePackets_talked (t := t) ps 1 _ hv hlen1 (.inr hbytes)
      rw [Nat.add_comm] at htalked
      exact htalked
    next hbytes => exact hv.stop hlen1 Nat.one_pos (Nat.le_add_left ..) hbytes

end

/- ### The command list beside a conversation -/

/-- The command list replaced. -/
def withList (l : CommandList) (c : Carried) : Carried := { c with cmdList := l }

theorem followsConversation_withList (l : CommandList) (t : Bool) : FollowsConversation (withList l) t t where
  dutydec := followsDutydec_of_trace t fun _ _ _ => rfl
  record _ _ := rfl

/-- A conversation of another command list, run from the same state. -/
theorem exec_converse_withList {s : State} {f : Nat} {i : Bool} {ps : List (List Byte)} (hf : f < s.profiles.length)
    (w t : Bool) :
    exec (.converse w t) { s with cmdList := ⟨f, i, ps⟩ } =
      ((converseSteps w t ⟨f, i, ps⟩ (conversing f t s)).map (beside (withList ⟨f, i, ps⟩))).toOutcome := by
  rw [← (followsConversation_withList _ t).converseSteps w ⟨f, i, ps⟩ (conversing f t s)]
  exact exec_converse (s := { s with cmdList := ⟨f, i, ps⟩ }) rfl hf w t

/-- The command list is still there when a conversation ends, and the engine's parameters. -/
theorem converseSteps_kept {w t : Bool} {l : CommandList} {f : Nat} {s r : State}
    (h : (converseSteps w t l (conversing f t s)).toOutcome = .next r) : r.cmdList = s.cmdList ∧ r.par = s.par :=
  have hkeeps := Run.Ends.next (converseSteps_keeps w t l (conversing f t s)) h
  ⟨hkeeps.cmdList, hkeeps.par⟩

/-- A conversation whose last outcome is `Bytes` ran every step it was asked for. -/
theorem converseSteps_done {w t : Bool} {l : CommandList} {f : Nat} {s u : State}
    (h : converseSteps w t l (conversing f t s) = .ok u) :
    u.fault = s.fault ∧ (u.out.kind = .bytes → u.conv = ⟨count16 (conversationLength l), false⟩) := by
  have htalked := converseSteps_talked (s := conversing f t s) w t l rfl rfl
  rw [h] at htalked
  refine ⟨htalked.fault, fun hbytes => ?_⟩
  have hlen := htalked.length_of_bytes hbytes
  have haborted : u.conv.aborted = false := by rw [htalked.aborted, hlen]; simp
  have hdone := htalked.recorded.done
  rw [hlen] at hdone
  rw [← hdone, ← haborted]

theorem converseSteps_halted_faulted {w t : Bool} {l : CommandList} {f : Nat} {s u : State}
    (h : converseSteps w t l (conversing f t s) = .halted u) : u.fault.v = true := by
  have htalked := converseSteps_talked (s := conversing f t s) w t l rfl rfl
  rwa [h] at htalked

/-- Where a conversation of another command list ended. -/
theorem converse_withList_ended {s u : State} {f : Nat} {i : Bool} {ps : List (List Byte)} {w t : Bool}
    (hexec : exec (.converse w t) { s with cmdList := ⟨f, i, ps⟩ } = .next u) (hfault : u.fault.v = false) :
    ∃ v, f < s.profiles.length ∧ converseSteps w t ⟨f, i, ps⟩ (conversing f t s) = .ok v ∧
      u = { v with cmdList := ⟨f, i, ps⟩ } := by
  rcases Nat.lt_or_ge f s.profiles.length with hf | hf
  · rw [exec_converse_withList hf] at hexec
    rcases hrun : converseSteps w t ⟨f, i, ps⟩ (conversing f t s) with v | v | x | x
    · rw [hrun] at hexec
      cases hexec
      exact ⟨v, hf, rfl, rfl⟩
    · rw [hrun] at hexec
      cases hexec
      exact absurd (converseSteps_halted_faulted hrun) (Bool.eq_false_iff.mp hfault)
    · rw [hrun] at hexec
      cases hexec
    · rw [hrun] at hexec
      cases hexec
  · rw [exec_converse_badProfile (s := { s with cmdList := ⟨f, i, ps⟩ }) rfl hf] at hexec
    cases hexec
    cases hfault

/- ### The statements -/

/-- Settles O49: no step is asked for. -/
theorem converseWithNothingToDo : Obligations.ConverseWithNothingToDo := by
  intro s w t f hl hf
  rw [exec_converse hl hf]
  rfl

/-- Settles O52: the receive is the only step. -/
theorem converseOpensWithAReceive : Obligations.ConverseOpensWithAReceive := by
  intro s u w t f hl hf hexec hfault
  have hsteps := rxStep_steps w t (conversing f t s)
  have hrun : rxStep w t (conversing f t s) = .ok u := toOutcome_ok hexec rxStep_halted_faulted hfault
  rw [hrun] at hsteps
  obtain ⟨hkept, -, -⟩ := hsteps
  have hconv : u.conv = ⟨0, false⟩ := hkept.conv
  have hresults : u.results = [] := hkept.results
  have hrecord : recordStep 1 u = { u with conv := ⟨1, false⟩, results := [⟨u.out, u.rep, u.trace⟩] } := by
    rw [recordStep, hconv, hresults]
    rfl
  rw [exec_converse hl hf, converseSteps_receiveFirst, hrun, Run.andThen_ok]
  by_cases hbytes : u.out.kind = .bytes
  · rw [if_pos hbytes, hrecord]
    rfl
  · rw [if_neg hbytes, hrecord]
    rfl

/-- Settles O51: one step, and the counting after it. -/
theorem converseRunsOneExchange : Obligations.ConverseRunsOneExchange := by
  intro s P w t f idle packet lead body trail ds hl hrow hkind hwf hroom hfit hfault hds htrace hwhole hlead htrail
    hsymMax hpay
  obtain ⟨hf, -⟩ := List.getElem?_eq_some_iff.mp hrow
  have hstep := txrxStep_pdPacket (s := packetStart 0 packet (conversing f t s)) ⟨hrow, hkind, hwf⟩ hfit hds htrace
    hwhole hlead htrail hsymMax hpay t
  rw [exec_converse hl hf, converseSteps_transmitFirst w t f (by simp),
    conversePackets_fits (s := conversing f t s) hroom, hstep]
  exact ⟨_, rfl, hfault, rfl, rfl, rfl, rfl, rfl, rfl, rfl, rfl, rfl, rfl, rfl, rfl, rfl, rfl, rfl⟩

/-- Settles O50: the selection's fault, the first packet's, and the fault of a packet after others. -/
theorem converseFaults : Obligations.ConverseFaults := by
  intro s w t f i ps rest p
  refine ⟨fun hl hf => exec_converse_badProfile hl hf w t, fun hl hf hlong => ?_,
    fun u hl hps hlong hexec hfault hbytes => ?_⟩
  · rw [exec_converse hl hf, converseSteps_transmitFirst w t f (by simp),
      conversePackets_long (s := conversing f t s) hlong]
    rfl
  obtain ⟨v, hf, hrun, rfl⟩ := converse_withList_ended hexec hfault
  obtain ⟨hcmdList, hpar⟩ := converseSteps_kept (congrArg Run.toOutcome hrun)
  obtain ⟨-, hdone⟩ := converseSteps_done hrun
  have hsteps : v.conv.done = count16 (conversationLength ⟨f, i, ps⟩) := congrArg (·.done) (hdone hbytes)
  have hbytes' : v.out.kind = .bytes := hbytes
  rw [exec_converse hl hf, converseSteps_more w t hps (by simp), hrun, Run.andThen_ok, if_pos hbytes',
    conversePackets_long (hpar ▸ hlong), ← hcmdList, ← hsteps]
  rfl

/-- A conversation with one packet more, `SEQ.step` and the counter being the number of steps before it. -/
theorem exec_converse_oneMore {s : State} {w t : Bool} {f : Nat} {i : Bool} {ps : List (List Byte)} {p : List Byte}
    (hl : s.cmdList = ⟨f, i, ps ++ [p]⟩) (hps : ps ≠ [] ∨ i = false) (hfit : p.length ≤ s.par.txMax)
    (hfault : s.fault.v = false) (hlength : conversationLength s.cmdList < 2 ^ 16) (hf : f < s.profiles.length) :
    exec (.converse w t) s =
      withOneMore t s.cmdList p (exec (.converse w t) { s with cmdList := ⟨f, i, ps⟩ }) := by
  have hmore : conversationLength ⟨f, i, ps ++ [p]⟩ = conversationLength ⟨f, i, ps⟩ + 1 := by
    simp only [conversationLength, List.length_append, List.length_singleton]
    omega
  rw [hl, hmore] at hlength
  rw [exec_converse hl hf, converseSteps_more w t hps (by simp), exec_converse_withList hf, hmore]
  cases hrun : converseSteps w t ⟨f, i, ps⟩ (conversing f t s) with
  | ok v =>
    obtain ⟨hcmdList, hpar⟩ := converseSteps_kept (congrArg Run.toOutcome hrun)
    obtain ⟨hv, hdone⟩ := converseSteps_done hrun
    have hvf : v.fault.v = false := by rw [hv, hfault]
    have hunfaulted : ¬v.fault.v = true := by simp [hvf]
    rw [Run.andThen_ok, ← hcmdList]
    refine Eq.trans ?_ (if_neg hunfaulted).symm
    by_cases hbytes : v.out.kind = .bytes
    · have hconv := hdone hbytes
      have hcount : v.conv.done.toNat = conversationLength ⟨f, i, ps⟩ := by
        rw [hconv]
        exact count16_toNat (by omega)
      have hsteps : count16 v.conv.done.toNat = v.conv.done := by rw [hcount, hconv]
      rw [if_pos hbytes, conversePackets_last (hpar ▸ hfit) hvf (by rw [hconv]) hlength, ← hcount, packetStart, hsteps]
      exact (if_pos hbytes).symm
    · rw [if_neg hbytes]
      exact (if_neg hbytes).symm
  | halted v =>
    obtain ⟨hcmdList, -⟩ := converseSteps_kept (congrArg Run.toOutcome hrun)
    rw [Run.andThen_halted, ← hcmdList]
    exact (if_pos (converseSteps_halted_faulted hrun)).symm
  | stuck x => rfl
  | refused x => rfl

/-- Where a conversation that did not fault ended. -/
theorem converse_ended {s r : State} {w t : Bool} (hexec : exec (.converse w t) s = .next r) (hr : r.fault.v = false) :
    Talked (openings s.cmdList) (conversationLength s.cmdList) s r := by
  obtain ⟨v, hf, hrun, heq⟩ := converse_withList_ended (s := s) (i := s.cmdList.initiator) (ps := s.cmdList.packets)
    (f := s.cmdList.family) hexec hr
  obtain ⟨hcmdList, -⟩ := converseSteps_kept (congrArg Run.toOutcome hrun)
  have hrv : r = v := heq.trans (by rw [← hcmdList])
  have htalked := converseSteps_talked (s := conversing s.cmdList.family t s) w t s.cmdList rfl rfl
  rw [show converseSteps w t s.cmdList _ = .ok v from hrun] at htalked
  exact hrv ▸ { htalked with }

/-- Settles O53: one step more or one packet left over, and what the steps count. -/
theorem conversationStopsAtTheFirstFailure : Obligations.ConversationStopsAtTheFirstFailure := by
  intro s w t hfault hlength
  refine ⟨fun f p hl hf hfit => ?_, fun f i ps p hl hps hfit => ?_, fun r hexec hr => ?_⟩
  · rw [exec_converse hl hf, converseSteps_transmitFirst w t f (by simp)]
    exact conversePackets_last (s := conversing f t s) hfit hfault rfl (by decide)
  · rcases Nat.lt_or_ge f s.profiles.length with hf | hf
    · exact exec_converse_oneMore hl hps hfit hfault hlength hf
    · rw [exec_converse_badProfile hl hf, exec_converse_badProfile (s := { s with cmdList := ⟨f, i, ps⟩ }) rfl hf]
      rfl
  · have htalked := converse_ended hexec hr
    have hlast {j : Nat} {x : StepResult} (hx : r.results[j]? = some x) : j < r.results.length :=
      (List.getElem?_eq_some_iff.mp hx).1
    refine ⟨htalked.le, ?_, ?_, fun j x hx hbytes => ?_, fun j x hx => (htalked.recorded.results j x hx).2,
      fun hlt => ?_, htalked.sent⟩
    · rw [htalked.recorded.done, count16_toNat (htalked.le.trans_lt hlength)]
    · rw [htalked.aborted, decide_eq_true_eq]
    · by_contra hne
      have hj := hlast hx
      exact hbytes ((htalked.recorded.results j x hx).1 (by omega))
    · obtain ⟨hne, hout⟩ := htalked.left hlt
      have hpos := List.length_pos_iff.mpr hne
      have hx := List.getElem?_eq_getElem (Nat.sub_lt hpos Nat.one_pos)
      refine ⟨_, List.mem_of_getElem? hx, ?_⟩
      rw [(htalked.recorded.results _ _ hx).2 (by omega)]
      exact hout

end Sys2Proof.Machine
end

section
/-! Proof of R211 (spec 46_sequencer.md): what a step that captured something leaves is what the unit operations make of
its capture. -/

namespace Sys2Proof.Machine

/- ### The capture a step decoded -/

/-- A receive that ended with a decoded capture. -/
theorem receive_decoded {t : Bool} {P : Profile} {W : Option Nat} {s r : State} (h : receive t P W s = .ok r)
    (htimed : r.out.kind ≠ .timedOut) (hlong : r.out.reason ≠ 8) :
    ∃ c full d, decodeStep t P (capturedState c full s) = .ok d ∧ r = endStep d := by
  rcases receive_cases t P W s with ⟨-, hgo⟩ | ⟨-, -, hgo⟩ | ⟨-, -, hgo⟩
  · rw [hgo] at h
    cases h
  · rw [hgo] at h
    cases h
  rw [hgo] at h
  rcases hcapture : capture s.par P W (nextTrace s) ⟨[], s.log, ⟨false, []⟩⟩ with ⟨c, e⟩
  rw [hcapture] at h
  cases e with
  | nothingReceived =>
    cases h
    exact absurd rfl htimed
  | tooLong =>
    cases h
    exact absurd rfl hlong
  | captured full =>
    obtain ⟨d, hd, hr⟩ := Run.andThen_eq_ok.mp h
    exact ⟨c, full, d, hd, (Run.ok.inj hr).symm⟩

/-- The step's decoders start from a reset state. -/
structure DecodeStart (t : Bool) (s z : State) : Prop where
  selected : selectedProfile z = selectedProfile s
  pay      : z.pay = []
  rep      : z.rep = []
  out      : z.out = .clear
  trace    : z.cfg.trace = t

/-- A step of either kind that captured something. -/
theorem exec_step_decoded {s r : State} {P : Profile} {w t : Bool} {i : Instr} (hi : i = .rxstep w t ∨ i = .txrxstep t)
    (hsel : selectedProfile s = some P) (hwf : profileWellFormed P = true) (h : exec i s = .next r)
    (hfault : r.fault.v = false) (htimed : r.out.kind ≠ .timedOut) (hlong : r.out.reason ≠ 8) :
    ∃ z d, DecodeStart t s z ∧ decodeStep t P z = .ok d ∧ r = endStep d := by
  have hadm := profileAdmitted_of_wellFormed hwf
  rcases hi with rfl | rfl
  · have hrun := toOutcome_ok h rxStep_halted_faulted hfault
    rw [rxStep_of_admitted hsel hadm] at hrun
    obtain ⟨c, full, d, hd, hr⟩ := receive_decoded hrun htimed hlong
    exact ⟨capturedState c full (startStep t s), d, ⟨rfl, rfl, rfl, rfl, rfl⟩, hd, hr⟩
  · have hrun := toOutcome_ok h txrxStep_halted_faulted hfault
    have hfits : emissionFits s.par.emitMax P s.txb := by
      by_contra hnot
      rw [txrxStep_of_admitted hsel hadm, modulate_of_not_fits (s := startStep t s) hnot] at hrun
      cases hrun
    rw [txrxStep_of_fits hsel hadm hfits] at hrun
    obtain ⟨c, full, d, hd, hr⟩ := receive_decoded hrun htimed hlong
    exact ⟨capturedState c full (sentStep t P s), d, ⟨rfl, rfl, rfl, rfl, rfl⟩, hd, hr⟩

/-- The profile is still selected when the decoders have ended. -/
theorem DecodeStart.hasProfile {s z d : State} {P : Profile} {t : Bool} {kind : Kind} (hz : DecodeStart t s z)
    (hsel : selectedProfile s = some P) (hkind : P.kind = kind) (hwf : profileWellFormed P = true)
    (h : decodeStep t P z = .ok d) : hasProfile kind (endStep d) P := by
  have hleaves := decodeStep_leaves (P := P) hz.out hz.trace
  rw [h] at hleaves
  obtain ⟨hd, -⟩ := hleaves
  refine ⟨?_, hkind, hwf⟩
  have hcfg : selectedProfile d = selectedProfile z := by
    rw [hd.frame]
    rfl
  exact hcfg.trans (hz.selected.trans hsel)

/- ### Pulse-distance captures -/

/-- What `CROP` answers without a fault, by `SYM` and the room in `PAY` (spec 43_framer.md R160 to R162). -/
theorem cropCore_answers {P : Profile} {s r : State} (h : cropCore P s = .ok r) :
    ∃ pay rep out,
      (out = ⟨.bytes, 0, 0, 0⟩ ∨
        out = ⟨.badPacket, 10, s.sym.length, P.cropLead.toNat + P.cropTrail.toNat⟩ ∧ pay = [] ∧ rep = []) ∧
      ∀ u, u.par = s.par → u.sym = s.sym → cropCore P u = .ok { u with pay := pay, rep := rep, out := out } := by
  rw [cropCore] at h
  by_cases hall : s.sym.all isByte = true
  · rw [if_pos hall] at h
    by_cases hshort : s.sym.length < P.cropLead.toNat + P.cropTrail.toNat
    · refine ⟨[], [], _, .inr ⟨rfl, rfl, rfl⟩, fun u hpar hsym => ?_⟩
      rw [← hsym] at hall hshort ⊢
      exact cropCore_tooShort hall hshort
    · rw [if_neg hshort] at h
      by_cases hroom : s.par.payloadMax < (cropped P s.sym).length
      · rw [if_pos hroom] at h
        cases h
      · refine ⟨cropped P s.sym, [⟨.dump, 0, cropped P s.sym⟩], _, .inl rfl, fun u hpar hsym => ?_⟩
        rw [← hsym] at hall hshort hroom ⊢
        rw [← hpar] at hroom
        rw [cropCore, if_pos hall, if_neg hshort, if_neg hroom]
        rfl
  · rw [if_neg hall] at h
    cases h

/-- The decoders' work on a pulse-distance capture, done again by the units. -/
theorem pdStep_outcome {s z d : State} {P : Profile} {t : Bool} (hz : DecodeStart t s z) (hkind : P.kind = .pd)
    (hp : hasProfile .pd (endStep d) P) (h : decodeStep t P z = .ok d) :
    ∃ e, exec .pddec (endStep d) = .next e ∧
      (e.out.kind ≠ .bytes → e = endStep d ∧ d.out.kind = .badPacket ∧ 1 ≤ d.out.reason.toNat ∧
        d.out.reason.toNat ≤ 7 ∧ d.sym = [] ∧ d.pay = [] ∧ d.rep = []) ∧
      (e.out.kind = .bytes → exec .crop e = .next (endStep d) ∧
        (d.out = ⟨.bytes, 0, 0, 0⟩ ∨
          (d.out = ⟨.badPacket, 10, d.sym.length, P.cropLead.toNat + P.cropTrail.toNat⟩ ∧ d.pay = [] ∧
            d.rep = []))) := by
  simp only [decodeStep, hkind] at h
  obtain ⟨sym, pd, out, -, ⟨hout, hcore⟩ | ⟨-, -, -, hcore⟩⟩ := pddecCore_answers z.par.symMax P z.cap
  · rw [hcore z rfl rfl, Run.andThen_ok] at h
    rw [exec_pddec_of_hasProfile hp]
    by_cases hbytes : out.kind = .bytes
    · obtain ⟨pay, rep, crop, hcrop, hanswers⟩ := cropCore_answers ((if_pos hbytes).symm.trans h)
      have hd := Run.ok.inj (((if_pos hbytes).symm.trans h).symm.trans (hanswers _ rfl rfl))
      have hagain : pddecCore P (endStep d) = .ok { endStep d with sym := sym, pd := pd, out := out } :=
        hcore (endStep d) (hd ▸ rfl) (hd ▸ rfl)
      have hcropAgain := (exec_crop_of_hasProfile (s := { endStep d with sym := sym, pd := pd, out := out }) hp).trans
        (congrArg Run.toOutcome (hanswers _ (hd ▸ rfl) rfl))
      refine ⟨_, congrArg Run.toOutcome hagain, fun hnot => absurd hbytes hnot, fun _ => ?_⟩
      subst hd
      exact ⟨hcropAgain, hcrop⟩
    · have hd := (Run.ok.inj ((if_neg hbytes).symm.trans h)).symm
      have hagain : pddecCore P (endStep d) = .ok { endStep d with sym := sym, pd := pd, out := out } :=
        hcore (endStep d) (hd ▸ rfl) (hd ▸ rfl)
      refine ⟨_, congrArg Run.toOutcome hagain, fun _ => ?_, fun h => absurd h hbytes⟩
      subst hd
      rcases hout with rfl | ⟨reason, position, value, rfl, rfl, hlo, hhi⟩
      · exact absurd rfl hbytes
      · exact ⟨rfl, rfl, hlo, hhi, rfl, hz.pay, hz.rep⟩
  · rw [hcore z rfl rfl] at h
    cases h

/- ### Duty captures -/

theorem any_isPacketReport {rep : List Report} :
    rep.any isPacketReport = true ↔ ∃ x ∈ rep, x.kind ∈ [ReportKind.ok, .autofix, .chkfail, .error] := by
  rw [List.any_eq_true]
  refine exists_congr fun x => and_congr_right fun _ => ?_
  rw [isPacketReport]
  cases x.kind <;> simp

/-- The outcome of a duty capture by its reports and its first mismatch (spec 46_sequencer.md R211). -/
theorem dutyOutcome_spec {s : State} (hout : s.out = .clear) (hmm : s.frm.mmPos ≤ s.sym.length) :
    if (∃ x ∈ s.rep, x.kind ∈ [ReportKind.ok, .autofix, .chkfail, .error]) ∨ s.frm.mmValid = false then
      dutyOutcome s = ⟨.bytes, 0, 0, 0⟩
    else
      (dutyOutcome s).kind = .badPacket ∧ (dutyOutcome s).reason = 9 ∧ (dutyOutcome s).position = s.frm.mmPos ∧
      s.frm.mmPos ≤ s.sym.length ∧ (s.frm.mmPos = s.sym.length → (dutyOutcome s).value = 0x300) ∧
      (∀ v, s.sym[s.frm.mmPos]? = some (.byte v) → (dutyOutcome s).value = v.toNat) ∧
      (s.sym[s.frm.mmPos]? = some .byteError → (dutyOutcome s).value = 0x100) ∧
      (s.sym[s.frm.mmPos]? = some .longGap → (dutyOutcome s).value = 0x200) := by
  have hbytes : { s.out with kind := .bytes } = (⟨.bytes, 0, 0, 0⟩ : OutRegs) := by rw [hout]; rfl
  have hany := any_isPacketReport (rep := s.rep)
  by_cases hrep : s.rep.any isPacketReport = true
  · rw [if_pos (.inl (hany.mp hrep)), dutyOutcome, if_pos hrep, hbytes]
  · by_cases hvalid : s.frm.mmValid = true
    · rw [if_neg (not_or.mpr ⟨mt hany.mpr hrep, by simp [hvalid]⟩), dutyOutcome, if_neg hrep, if_pos hvalid]
      refine ⟨rfl, rfl, rfl, hmm, fun hpos => ?_, fun v hv => ?_, fun hv => ?_, fun hv => ?_⟩
      · rw [hpos, List.getElem?_length]
        rfl
      · rw [hv]
        exact (BitVec.toNat_append ..).trans (by simp)
      · rw [hv]
        rfl
      · rw [hv]
        rfl
    · rw [if_pos (.inr (by simpa using hvalid)), dutyOutcome, if_neg hrep, if_neg hvalid, hbytes]

/-- The decoders' work on a duty capture, done again by the units. -/
theorem dutyStep_again {z d : State} {P : Profile} {t : Bool} (hkind : P.kind = .duty)
    (hp : hasProfile .duty (endStep d) P) (h : decodeStep t P z = .ok d) :
    (∃ e, exec (.dutydec t) (endStep d) = .next e ∧ exec .frame e = .next (endStep d)) ∧
      ∃ u : State, d = { u with out := dutyOutcome u } ∧ u.out = z.out ∧ u.frm.mmPos ≤ u.sym.length := by
  have hT := Nat.one_le_iff_ne_zero.mp (tickLen_pos_of_hasProfile hp)
  simp only [decodeStep, hkind] at h
  obtain ⟨u1, h1, h⟩ := Run.andThen_eq_ok.mp h
  obtain ⟨u2, h2, h⟩ := Run.andThen_eq_ok.mp h
  have hd := (Run.ok.inj h).symm
  cases hrun : dtDecode z.par P t z.cap (dtBetween [] [] 0) with
  | error w =>
    rw [dutydecCore_error hT hrun] at h1
    cases h1
  | ok w =>
    rw [dutydecCore_ok hT hrun] at h1
    have hu1 := (Run.ok.inj h1).symm
    subst hu1
    rcases frmRun_leaves z.par P w.sym with ⟨v, hframe, hdone⟩ | ⟨c, v, hframe, -⟩
    · have hu2 := Run.ok.inj (h2.symm.trans (frameCore_ok (s := dtStore w (dtStart t z)) hframe))
      subst hu2
      have hagain : dutydecCore t P (endStep d) = .ok (dtStore w (dtStart t (endStep d))) :=
        dutydecCore_ok hT (by rw [hd]; exact hrun)
      refine ⟨⟨_, (exec_dutydec_of_hasProfile hp t).trans (congrArg Run.toOutcome hagain), ?_⟩, _, hd, rfl, hdone.mmPos⟩
      subst hd
      exact exec_frame_ok hp hframe
    · rw [frameCore, show frmRun (dtStore w (dtStart t z)).par P (dtStore w (dtStart t z)).sym = _ from hframe] at h2
      cases h2

/-- Settles O42: the units run again on what they left. -/
theorem dutyStepOutcome : Obligations.DutyStepOutcome := by
  intro s r P w t i hi hsel hwf hunfaulted hexec hfault htimed hlong
  obtain ⟨z, d, hz, hd, rfl⟩ := exec_step_decoded hi hsel hwf hexec hfault htimed hlong
  refine ⟨fun hkind => ?_, fun hkind => ?_⟩
  · exact pdStep_outcome hz hkind (hz.hasProfile hsel hkind hwf hd) hd
  · obtain ⟨hagain, u, rfl, hout, hmm⟩ := dutyStep_again hkind (hz.hasProfile hsel hkind hwf hd) hd
    exact ⟨hagain, dutyOutcome_spec (hout.trans hz.out) hmm⟩

end Sys2Proof.Machine
end
